-- ==== Sys2Proof/Word.lean ====
section
/-! DEFINITION. The words the links carry and the numbers the manual counts with: bytes, channel and card numbers,
ticks. A tick, a pressure or a counter is an exact integer in the manual (00_scope, "Arithmetic"; R1), so it is a `Nat`;
only what the links carry as bits is a bit vector. -/
namespace Sys2Proof

/-- One byte of a frame on either link (R170). -/
abbrev Byte := BitVec 8

/-- A channel number, 0..31 (R1). -/
abbrev Chan := Fin 32

/-- A lane card number, 0..3 (R1). -/
abbrev Card := Fin 4

/-- A tick number: an unsigned count the part never wraps (R1). -/
abbrev Tick := Nat

end Sys2Proof
end

