-- ==== Sys2Proof/Config.lean ====
section
/-! DEFINITION. What the manual fixes for every part (capacities, the identity figures) and the one order it leaves open
that a whole step must settle (`noticeHeldBack`). -/
namespace Sys2Proof.Config

/-- The largest tick number, 281,474,976,710,655 (R1). -/
def maxTick : Nat := 281474976710655

/-- The value at which every test counter and the phase event count hold (R90, R109). -/
def counterMax : Nat := 4294967295

/-- The largest event number; the next one is 1 (R59). -/
def eventNumberMax : Nat := 4294967295

/-- Hit serials count modulo 65536 (R22 step 4). -/
def serialModulus : Nat := 65536

/-- The value at which crossing count, hold tally, ramp number and ramp events hold (R25, R116, R118, R119). -/
def count16Max : Nat := 65535

/-- The saturation of a reported energy (R43). -/
def energyMax : Nat := 4294967295

/-- Places of the record queue (R145). -/
def recordCapacity : Nat := 512

/-- Fill at and above which HIT and EVENT records are dropped (R145). -/
def dataCapacity : Nat := 496

/-- Reservations and filled answers together (R143). -/
def answerCapacity : Nat := 8

/-- Frames in the pass-through buffer (R147). -/
def passCapacity : Nat := 16

/-- Orders in the order queue (R94). -/
def orderCapacity : Nat := 4

/-- Entries of the arrival list (R54). -/
def arrivalCapacity : Nat := 64

/-- Members of one event (R60). -/
def memberCapacity : Nat := 8

/-- The identity figures of R155, in the order of its table. -/
def vendorCode : Nat := 80
def familyCode : Nat := 3220
def revision : Nat := 1
def channelCount : Nat := 32
def cardCount : Nat := 4
def pairCount : Nat := 16
def slotCount : Nat := 8

/-- DESIGN CHOICE (log entry 7), safe: a FREE VALUE. When a rupture truncates OPEN hits in the middle of the assembler's
stage, the end notice of a hit reaches the assembler either at once or after the remaining slots have been examined:
"Either order is correct" (R71). The `k`-th such notice (counted by `State.freeDraws`, which no reset clears) is held back exactly when `noticeHeldBack k`;
nothing constrains it. -/
opaque noticeHeldBack : Nat → Bool

end Sys2Proof.Config
end

