-- ==== Sys2Proof/Syntax.lean ====
section
/-! DEFINITION. The commands: one constructor per row of spec/opcode_table.json.

A row that is the arrival of a frame carries the frame as it stands on the inlet link: its payload bytes and its two-byte
frame check (R170). The kind byte is fixed by the row (the nine ORDER rows all have kind 13h), except for UNKNOWN_KIND,
which carries it. The length field of a frame that arrives whole is the length of its payload (R170), so it is no operand
of its own. The inlet's checks, and everything a block reads out of the payload, are the machine's work, not the
syntax's. -/
namespace Sys2Proof

/-- A frame without its kind byte: payload and frame check as received (R170). -/
structure Frame where
  payload : List Byte
  check : BitVec 16
  deriving DecidableEq, Repr

/-- The commands of the part, in the order of spec/opcode_table.json. -/
inductive Instr where
  /-- POWER_ON_RESET (R152): the power-on reset line. -/
  | powerOnReset
  /-- SAMPLE (R7): a frame of kind 01h arrives. -/
  | sample (f : Frame)
  /-- SETTLE (R10): a frame of kind 02h arrives. -/
  | settle (f : Frame)
  /-- PROCESS (R112): a frame of kind 03h arrives. -/
  | process (f : Frame)
  /-- SETTLE_PASS (R13): the pass in progress runs its two stages. -/
  | settlePass
  /-- NORMAL_END (R29): the unit of channel `c` takes the sample that completes the quiet run. -/
  | normalEnd (c : Chan)
  /-- LONG_END (R30): the unit of channel `c` takes the sample at raw arrival + L − 1. -/
  | longEnd (c : Chan)
  /-- REARM_END (R31): the unit of channel `c` takes its first sample at or above the readiness tick. -/
  | rearmEnd (c : Chan)
  /-- READY_LINE (R141): the ready line takes the level `asserted`. -/
  | readyLine (asserted : Bool)
  /-- TRANSMISSION_COMPLETE (R141): the last byte of the frame in transmission has gone. -/
  | transmissionComplete
  /-- IDENTIFY (R155): a frame of kind 10h arrives. -/
  | identify (f : Frame)
  /-- WRITE_TABLE (R131): a frame of kind 11h arrives. -/
  | writeTable (f : Frame)
  /-- READ_TABLE (R132): a frame of kind 12h arrives. -/
  | readTable (f : Frame)
  /-- READ_STATE (R157): a frame of kind 14h arrives. -/
  | readState (f : Frame)
  /-- SET_MARK (R156): a frame of kind 15h arrives. -/
  | setMark (f : Frame)
  /-- DROP_ORDERS (R158): a frame of kind 16h arrives. -/
  | dropOrders (f : Frame)
  /-- CLEAR_CONDITIONS (R159): a frame of kind 17h arrives. -/
  | clearConditions (f : Frame)
  /-- RESET_LINK (R160): a frame of kind 18h arrives. -/
  | resetLink (f : Frame)
  /-- ARM (R105): an ORDER frame, kind 13h, arrives. -/
  | arm (f : Frame)
  /-- RAMP (R93): an ORDER frame arrives. -/
  | ramp (f : Frame)
  /-- HOLD (R93): an ORDER frame arrives. -/
  | hold (f : Frame)
  /-- UNLOAD (R93): an ORDER frame arrives. -/
  | unload (f : Frame)
  /-- MUTE (R93): an ORDER frame arrives. -/
  | mute (f : Frame)
  /-- UNMUTE (R93): an ORDER frame arrives. -/
  | unmute (f : Frame)
  /-- SWAP (R101): an ORDER frame arrives. -/
  | swap (f : Frame)
  /-- AWAIT (R93): an ORDER frame arrives. -/
  | await (f : Frame)
  /-- FINISH (R93): an ORDER frame arrives. -/
  | finish (f : Frame)
  /-- UNKNOWN_KIND (R170): a frame arrives whose kind byte names no inlet kind. -/
  | unknownKind (kind : Byte) (f : Frame)
  deriving DecidableEq, Repr

end Sys2Proof
end

