-- ==== Sys2Proof/Machine/Layout.lean ====
section
/-! DEFINITION. Byte order, the frame check and the envelope (chapter 12, R170), and the kind codes of the inlet. -/
namespace Sys2Proof.Machine

/-- The unsigned value of a multi-byte field, most significant byte first (chapter 12, first paragraph). -/
def beNat (bs : List Byte) : Nat := bs.foldl (fun acc b => acc * 256 + b.toNat) 0

/-- `n` as a field of `w` bytes, most significant byte first; a value wider than the field loses its high bytes. -/
def natBE : (w : Nat) → (n : Nat) → List Byte
  | 0, _ => []
  | w + 1, n => BitVec.ofNat 8 (n / 256 ^ w) :: natBE w n

/-- The field of `w` bytes at `offset` of a payload. -/
def fieldAt (bs : List Byte) (offset w : Nat) : Nat := beNat ((bs.drop offset).take w)

/-- The byte at `offset` of a payload (0 beyond its end, where no caller looks). -/
def byteAt (bs : List Byte) (offset : Nat) : Byte := bs.getD offset 0

/-- A sample: a signed 16-bit field, two's complement (chapter 12). -/
def signed16 (n : Nat) : Int := if n < 32768 then n else (n : Int) - 65536

/-- The gain offset: a signed byte, two's complement (chapter 12). -/
def signed8 (n : Nat) : Int := if n < 128 then n else (n : Int) - 256

/-- One shift of the check register: left by one, and 1021h when a 1 went out (R170). -/
def crcShift (r : BitVec 16) : BitVec 16 := if r.msb then (r <<< 1) ^^^ 0x1021#16 else r <<< 1

/-- One byte into the check register: exclusive-or into its upper eight bits, then eight shifts (R170). -/
def crcByte (r : BitVec 16) (b : Byte) : BitVec 16 :=
  crcShift (crcShift (crcShift (crcShift (crcShift (crcShift (crcShift (crcShift
    (r ^^^ (b.setWidth 16 <<< 8)))))))))

/-- The check register after a run of bytes, starting at FFFFh (R170). -/
def crc (bs : List Byte) : BitVec 16 := bs.foldl crcByte 0xFFFF#16

/-- The kind and length bytes that precede the payload (R170). -/
def envelopeHead (kind : Byte) (payload : List Byte) : List Byte := kind :: natBE 2 payload.length

/-- The frame check of a frame: over kind, length and payload, in that order (R170). -/
def frameCheck (kind : Byte) (payload : List Byte) : BitVec 16 := crc (envelopeHead kind payload ++ payload)

/-- The inlet's recomputation of the check agrees with the one received (R170). -/
def checkOk (kind : Byte) (f : Frame) : Bool := f.check == frameCheck kind f.payload

/-- A frame as a sender builds it: this payload with the check that R170 gives it. -/
def intactFrame (kind : Byte) (payload : List Byte) : Frame := { payload, check := frameCheck kind payload }

/-- All the bytes of a frame on a link, first byte first (R170). -/
def frameBytes (kind : Byte) (f : Frame) : List Byte :=
  envelopeHead kind f.payload ++ f.payload ++ natBE 2 f.check.toNat

/-- The codes of the kind table that the inlet lists (R170). -/
def kindSample : Byte := 0x01
def kindSettle : Byte := 0x02
def kindProcess : Byte := 0x03
def kindIdentify : Byte := 0x10
def kindWriteTable : Byte := 0x11
def kindReadTable : Byte := 0x12
def kindOrder : Byte := 0x13
def kindReadState : Byte := 0x14
def kindSetMark : Byte := 0x15
def kindDropOrders : Byte := 0x16
def kindClearConditions : Byte := 0x17
def kindResetLink : Byte := 0x18

/-- The kinds listed for the inlet; every other byte is an unknown kind (R170). -/
def inletKinds : List Byte :=
  [kindSample, kindSettle, kindProcess, kindIdentify, kindWriteTable, kindReadTable, kindOrder, kindReadState,
   kindSetMark, kindDropOrders, kindClearConditions, kindResetLink]

/-- The order byte of an ORDER payload: the byte after the tag (R172), absent when the payload is too short. -/
def orderByte (f : Frame) : Option Byte := f.payload[1]?

end Sys2Proof.Machine
end

