-- ==== Sys2Proof/WellFormed.lean ====
section
/-! DEFINITION. Which commands are terms a sender can send: a frame's payload fits its two-byte length field (R170), an
UNKNOWN_KIND frame's kind is none the inlet lists, and an ORDER frame stands under the row of the order its order byte
names. An ORDER frame that names no order (a payload too short to hold the byte, or a byte outside 1..9) may stand under
any of the nine rows: the table has no row of its own for it, and R156 answers it REFUSED-RANGE whichever row brings it
(log entry 3). -/
namespace Sys2Proof

open Sys2Proof.Machine

/-- The payload fits the length field (R170). -/
def frameFits (f : Frame) : Bool := f.payload.length < 65536

/-- The order byte of the frame is `code`, or names none of the nine orders, or is missing (R171, R172). -/
def orderRowOk (code : Byte) (f : Frame) : Bool :=
  match orderByte f with
  | none => true
  | some b => b == code || b.toNat == 0 || decide (9 < b.toNat)

/-- The well-formed commands. -/
def wellFormed : Instr → Bool
  | .powerOnReset => true
  | .sample f => frameFits f
  | .settle f => frameFits f
  | .process f => frameFits f
  | .settlePass => true
  | .normalEnd _ => true
  | .longEnd _ => true
  | .rearmEnd _ => true
  | .readyLine _ => true
  | .transmissionComplete => true
  | .identify f => frameFits f
  | .writeTable f => frameFits f
  | .readTable f => frameFits f
  | .readState f => frameFits f
  | .setMark f => frameFits f
  | .dropOrders f => frameFits f
  | .clearConditions f => frameFits f
  | .resetLink f => frameFits f
  | .arm f => frameFits f && orderRowOk 1 f
  | .ramp f => frameFits f && orderRowOk 2 f
  | .hold f => frameFits f && orderRowOk 3 f
  | .unload f => frameFits f && orderRowOk 4 f
  | .mute f => frameFits f && orderRowOk 5 f
  | .unmute f => frameFits f && orderRowOk 6 f
  | .swap f => frameFits f && orderRowOk 7 f
  | .await f => frameFits f && orderRowOk 8 f
  | .finish f => frameFits f && orderRowOk 9 f
  | .unknownKind k f => frameFits f && !inletKinds.contains k

end Sys2Proof
end

