-- ==== Sys2Proof/Decode.lean ====
section
/-! DEFINITION. The reading of a command. No row of spec/opcode_table.json gives bits, so a word of the table spells no
command (`decodeTableWord`). What the part does read is the inlet link: `linkCommand` reads the bytes of one whole frame
(R170) and answers the row of the table that its arrival is, and `linkBytes` writes a frame command back as the bytes on
the link. -/
namespace Sys2Proof

open Sys2Proof.Machine

/-- No row of the opcode table has bits: every word spells no command. -/
def decodeTableWord (_nbits _w : Nat) : Option Instr := none

/-- The row under which an ORDER frame arrives, by its order byte (R171, R172). A frame that names no order comes under
ARM's row (log entry 3: any of the nine would do, the answer is the same). -/
def orderCommand (f : Frame) : Instr :=
  match orderByte f with
  | some 2 => .ramp f
  | some 3 => .hold f
  | some 4 => .unload f
  | some 5 => .mute f
  | some 6 => .unmute f
  | some 7 => .swap f
  | some 8 => .await f
  | some 9 => .finish f
  | _ => .arm f

/-- The row of the table that the arrival of this frame is, by its kind byte (R170). -/
def frameCommand (kind : Byte) (f : Frame) : Instr :=
  if kind = kindSample then .sample f
  else if kind = kindSettle then .settle f
  else if kind = kindProcess then .process f
  else if kind = kindIdentify then .identify f
  else if kind = kindWriteTable then .writeTable f
  else if kind = kindReadTable then .readTable f
  else if kind = kindOrder then orderCommand f
  else if kind = kindReadState then .readState f
  else if kind = kindSetMark then .setMark f
  else if kind = kindDropOrders then .dropOrders f
  else if kind = kindClearConditions then .clearConditions f
  else if kind = kindResetLink then .resetLink f
  else .unknownKind kind f

/-- One whole frame read from the inlet link: kind, length, payload, check, and nothing after it (R170). Bytes that are
not one whole frame are no command: a frame is taken to arrive whole. -/
def linkCommand (bytes : List Byte) : Option Instr :=
  match bytes with
  | kind :: hi :: lo :: rest =>
    let len := beNat [hi, lo]
    if rest.length = len + 2 then
      some (frameCommand kind { payload := rest.take len, check := BitVec.ofNat 16 (beNat (rest.drop len)) })
    else none
  | _ => none

/-- The kind byte and frame of a command that is a frame's arrival; none for the other rows. -/
def commandFrame : Instr → Option (Byte × Frame)
  | .sample f => some (kindSample, f)
  | .settle f => some (kindSettle, f)
  | .process f => some (kindProcess, f)
  | .identify f => some (kindIdentify, f)
  | .writeTable f => some (kindWriteTable, f)
  | .readTable f => some (kindReadTable, f)
  | .readState f => some (kindReadState, f)
  | .setMark f => some (kindSetMark, f)
  | .dropOrders f => some (kindDropOrders, f)
  | .clearConditions f => some (kindClearConditions, f)
  | .resetLink f => some (kindResetLink, f)
  | .arm f => some (kindOrder, f)
  | .ramp f => some (kindOrder, f)
  | .hold f => some (kindOrder, f)
  | .unload f => some (kindOrder, f)
  | .mute f => some (kindOrder, f)
  | .unmute f => some (kindOrder, f)
  | .swap f => some (kindOrder, f)
  | .await f => some (kindOrder, f)
  | .finish f => some (kindOrder, f)
  | .unknownKind k f => some (k, f)
  | .powerOnReset => none
  | .settlePass => none
  | .normalEnd _ => none
  | .longEnd _ => none
  | .rearmEnd _ => none
  | .readyLine _ => none
  | .transmissionComplete => none

/-- The bytes of a frame command on the inlet link (R170). -/
def linkBytes (i : Instr) : Option (List Byte) := (commandFrame i).map fun kf => frameBytes kf.1 kf.2

end Sys2Proof
end

