-- ==== Sys2Proof/Machine/State.lean ====
section
/-! DEFINITION. Everything the manual gives the part to hold, block by block (00_scope, "Block overview"), as plain data:
the state tables are R4 (tick tracker), R17 (hit contexts), R53, R54, R59, R60 (event assembler), R90 and R118 (phase
controller), R111 (pressure monitor), R126 to R130 (table store), R140 (record outlet), R154 (management responder), R165
and R166 (fault and condition unit), and the ready line (R141). Three fields are the model's own: the queue of commands
that wait (`pending`), the samples that a channel unit has been handed and has not yet taken (`ChannelUnit.lane`, log
entry 4), and, for the one order a whole step leaves open (R71, log entry 7), the end notices on their way
(`Assembler.inFlight`) and the counter of the free value (`freeDraws`). -/
namespace Sys2Proof.Machine

/-! ## Enumerations (R171) -/

/-- Channel mode (R127). -/
inductive Mode where
  | off | listen | guard
  deriving DecidableEq, Repr

/-- Test phase (R91). -/
inductive Phase where
  | idle | armed | ramp | hold | unload | muted | burst
  deriving DecidableEq, Repr

/-- The nine conditions (R166). -/
inductive Condition where
  | denseEntered | recordLoss | passLoss | arrivalOverflow | eventOverflow | holdActive | rupture | pressureStale
  | mgmtOverrun
  deriving DecidableEq, Repr

/-- The eight fault codes (R162). -/
inductive FaultCode where
  | frameCheck | frameForm | tickOverlap | tickGap | settleDisorder | laneLag | modeSkip | tableInvalid
  deriving DecidableEq, Repr

/-- Fault class; ABORT only in the record that brought the part into HALTED (R162, R163). -/
inductive FaultClass where
  | fault | trap | abort
  deriving DecidableEq, Repr

/-- Mark source (R106). -/
inductive MarkSource where
  | none | pressureAtLeast | pressureAtMost | eventsInPhase | holdQuiet | rupture | denseEntry
  deriving DecidableEq, Repr

/-- Cut timing (R130). -/
inductive CutTiming where
  | immediate | atSettle
  deriving DecidableEq, Repr

/-- Cut state (R140). -/
inductive CutState where
  | none | pending | cut
  deriving DecidableEq, Repr

/-- The four loaded tables (R126). -/
inductive TableName where
  | channel | pair | decibel | test
  deriving DecidableEq, Repr

/-- What a SWAP names: one table, or ALL (R133). -/
inductive SwapName where
  | one (t : TableName) | all
  deriving DecidableEq, Repr

/-- Which copy of a table (R126). -/
inductive CopyName where
  | staged | active
  deriving DecidableEq, Repr

/-- The two marks (R106). -/
inductive MarkName where
  | zero | one
  deriving DecidableEq, Repr

/-- Answer codes (R154). -/
inductive AnswerCode where
  | done | refusedFull | refusedPhase | refusedRange | refusedInvalid | cancelled
  deriving DecidableEq, Repr

/-- The nine management kinds (R153). -/
inductive MgmtKind where
  | identify | writeTable | readTable | order | readState | setMark | dropOrders | clearConditions | resetLink
  deriving DecidableEq, Repr

/-- Listing outcome of an arrival (R55). -/
inductive Listing where
  | listed | late | unlisted
  deriving DecidableEq, Repr

/-- Class of an event (R67). -/
inductive EventClass where
  | normal | guarded
  deriving DecidableEq, Repr

/-- Close reason of an event (R64, R77). -/
inductive CloseReason where
  | complete | span | flush
  deriving DecidableEq, Repr

/-- Onset state of the ramp in progress (R118). -/
inductive OnsetState where
  | notTracked | undecided | decided
  deriving DecidableEq, Repr

/-- Outcome carried by an ONSET record (R121). -/
inductive OnsetOutcome where
  | decided | none
  deriving DecidableEq, Repr

/-- Reset cause of the IDENTITY record (R155). -/
inductive ResetCause where
  | powerOn | link
  deriving DecidableEq, Repr

/-! ## Loaded tables (R126 to R130) -/

/-- One entry of the channel table (R127). -/
structure ChannelEntry where
  mode : Mode
  threshold : Nat
  gain : Int
  delay : Nat
  quiet : Nat
  peakWindow : Nat
  rearm : Nat
  limit : Nat
  shift : Nat
  forward : Bool
  deriving DecidableEq, Repr

/-- One entry of the pair table (R80, R128). -/
structure PairEntry where
  valid : Bool
  a : Chan
  b : Chan
  spacing : Nat
  velocity : Nat
  deriving DecidableEq, Repr

/-- Source and parameter of one mark (R130). -/
structure MarkSpec where
  source : MarkSource
  parameter : Nat
  deriving DecidableEq, Repr

/-- One flag for each of the nine conditions: a report mask, the pending flags, the seen flags (R130, R166, R171). -/
structure CondSet where
  denseEntered : Bool
  recordLoss : Bool
  passLoss : Bool
  arrivalOverflow : Bool
  eventOverflow : Bool
  holdActive : Bool
  rupture : Bool
  pressureStale : Bool
  mgmtOverrun : Bool
  deriving DecidableEq, Repr

/-- No condition, and every condition. -/
def CondSet.empty : CondSet := ⟨false, false, false, false, false, false, false, false, false⟩
def CondSet.full : CondSet := ⟨true, true, true, true, true, true, true, true, true⟩

/-- The test table's one record (R130). -/
structure TestTable where
  window : Nat
  span : Nat
  quorum : Nat
  high : Nat
  low : Nat
  cutTiming : CutTiming
  holdLimit : Nat
  onsetCount : Nat
  reportMask : CondSet
  mark0 : MarkSpec
  mark1 : MarkSpec
  deriving DecidableEq, Repr

/-- One copy, staged or active, of the four tables (R126). -/
structure Tables where
  channels : Vector ChannelEntry 32
  pairs : Vector PairEntry 16
  levels : Vector Nat 100
  test : TestTable
  deriving DecidableEq, Repr

/-! ## Tick tracker (R4) -/

/-- The tick tracker's state (R4). -/
structure Tracker where
  expected : Vector (Option Tick) 4
  lag : Vector Bool 4
  /-- Last settle tick B. -/
  last : Option Tick
  /-- Settled tick S. -/
  settled : Option Tick
  passInProgress : Bool
  /-- The waiting SETTLE frame, by the one field it carries. -/
  waiting : Option Tick
  deriving DecidableEq, Repr

/-! ## Channel units (R17) -/

/-- What a hit copies from its channel's active entry at its start (R17, R22 step 1). -/
structure Snapshot where
  threshold : Nat
  quiet : Nat
  peakWindow : Nat
  limit : Nat
  rearm : Nat
  shift : Nat
  delay : Nat
  mode : Mode
  deriving DecidableEq, Repr

/-- The hit parts of an OPEN context (R17). The listing outcome is present from the starting sample on (R23). -/
structure Hit where
  snap : Snapshot
  raw : Tick
  comp : Tick
  listing : Listing
  /-- Last supra-threshold tick. -/
  lastSupra : Tick
  /-- Previous-above flag. -/
  above : Bool
  crossings : Nat
  peak : Nat
  peakTick : Tick
  clip : Bool
  energy : Nat
  quietRun : Nat
  quietSum : Nat
  deriving DecidableEq, Repr

/-- The hit context's state with the parts present in it (R17). -/
inductive Context where
  | dark
  | ready
  | openHit (h : Hit)
  | rearm (readiness : Tick)
  deriving DecidableEq, Repr

/-- One sample of a channel with its tick number (R9). -/
structure LaneSample where
  tick : Tick
  value : Int
  deriving DecidableEq, Repr

/-- One channel unit: hit serial and hit context (R17), and the samples it has been handed and has not yet taken, oldest
first (the model's own field, log entry 4). -/
structure ChannelUnit where
  serial : Nat
  ctx : Context
  lane : List LaneSample
  deriving DecidableEq, Repr

/-! ## Event assembler (R53, R54, R59, R60) -/

/-- An arrival-list entry, and a member entry, which holds the same fields (R54, R60). -/
structure Arrival where
  chan : Chan
  serial : Nat
  tick : Tick
  mode : Mode
  clip : Bool
  ended : Bool
  peakDb : Option Nat
  deriving DecidableEq, Repr

/-- An open event (R59). -/
structure Event where
  number : Nat
  first : Tick
  window : Nat
  span : Nat
  guarded : Bool
  members : List Arrival
  deriving DecidableEq, Repr

/-- The end notice of a hit (R52). -/
structure EndNotice where
  chan : Chan
  serial : Nat
  clip : Bool
  peakDb : Nat
  deriving DecidableEq, Repr

/-- The event assembler's state (R53), and the end notices handed to it that it takes at the end of its stage (the
model's own field, log entry 7). -/
structure Assembler where
  arrivals : List Arrival
  slots : Vector (Option Event) 8
  eventNumber : Nat
  inFlight : List EndNotice
  deriving DecidableEq, Repr

/-! ## Phase controller (R90, R94, R109, R115, R118) -/

/-- An order, with the table name of a SWAP or the mark number of an AWAIT (R92). -/
inductive Order where
  | arm | ramp | hold | unload | mute | unmute
  | swap (name : SwapName)
  | await (mark : MarkName)
  | finish
  deriving DecidableEq, Repr

/-- One entry of the order queue (R94). -/
structure QueuedOrder where
  order : Order
  tag : Byte
  deriving DecidableEq, Repr

/-- The nine test counters (R109). -/
structure Counters where
  hits : Nat
  suppressed : Nat
  hitsDropped : Nat
  events : Nat
  guarded : Nat
  unassociated : Nat
  eventsDropped : Nat
  passLost : Nat
  testDropped : Nat
  deriving DecidableEq, Repr

/-- The ramp part of the ramp bookkeeping (R118). -/
structure Ramp where
  number : Nat
  reload : Bool
  pref : Option Nat
  events : Nat
  onset : OnsetState
  deriving DecidableEq, Repr

/-- The hold bookkeeping (R115). -/
structure Hold where
  entry : Tick
  tally : Nat
  quietRef : Tick
  deriving DecidableEq, Repr

/-- The phase controller's state (R90). -/
structure Controller where
  phase : Phase
  mutedFrom : Option Phase
  queue : List QueuedOrder
  stalled : Bool
  mark0 : Bool
  mark1 : Bool
  phaseEvents : Nat
  counters : Counters
  ruptured : Bool
  ramp : Option Ramp
  lastRamp : Nat
  unloadNoted : Bool
  hold : Option Hold
  deriving DecidableEq, Repr

/-! ## Pressure monitor (R111) -/

/-- The pressure monitor's state (R111). -/
structure Monitor where
  pressure : Option Nat
  stale : Bool
  pmax : Nat
  deriving DecidableEq, Repr

/-! ## Records, answers and frames of the outlet -/

/-- The HIT record (R47 to R50). -/
structure HitRecord where
  chan : Chan
  serial : Nat
  raw : Tick
  comp : Tick
  endTick : Tick
  duration : Nat
  rise : Nat
  peak : Nat
  peakDb : Nat
  crossings : Nat
  energy : Nat
  shift : Nat
  phase : Phase
  pressure : Option Nat
  clip : Bool
  long : Bool
  truncated : Bool
  late : Bool
  unlisted : Bool
  guarded : Bool
  deriving DecidableEq, Repr

/-- The located part of a location (R88). -/
structure Located where
  pair : Fin 16
  a : Chan
  b : Chan
  spacing : Nat
  position : Nat
  outside : Bool
  deriving DecidableEq, Repr

/-- The location part of an EVENT record: the zone channel in both kinds, and the located fields when a pair located
(R88). -/
structure Location where
  zone : Chan
  located : Option Located
  deriving DecidableEq, Repr

/-- One member entry of an EVENT record (R74). -/
structure MemberRecord where
  chan : Chan
  serial : Nat
  tick : Tick
  mode : Mode
  clip : Bool
  unfinished : Bool
  peakDb : Option Nat
  deriving DecidableEq, Repr

/-- The EVENT record (R73). The member count, the clipped count at its own field and the unfinished count are carried as
the table has them. -/
structure EventRecord where
  number : Nat
  cls : EventClass
  reason : CloseReason
  first : Tick
  closeTick : Tick
  window : Nat
  span : Nat
  memberCount : Nat
  clipped : Nat
  unfinished : Nat
  phase : Phase
  pressure : Option Nat
  location : Option Location
  members : List MemberRecord
  deriving DecidableEq, Repr

/-- The hold part of a PHASE record (R108, R117). -/
structure HoldPart where
  tally : Nat
  span : Nat
  interrupted : Bool
  deriving DecidableEq, Repr

/-- The PHASE record (R108). -/
structure PhaseRecord where
  old : Phase
  new : Phase
  settled : Option Tick
  pressure : Option Nat
  events : Nat
  hold : Option HoldPart
  deriving DecidableEq, Repr

/-- The ONSET record (R121). -/
structure OnsetRecord where
  ramp : Nat
  outcome : OnsetOutcome
  pref : Nat
  count : Nat
  events : Nat
  settled : Tick
  deciding : Option Nat
  pon : Option Nat
  ratio : Option Nat
  above : Bool
  stale : Bool
  deriving DecidableEq, Repr

/-- The RUPTURE record (R125). -/
structure RuptureRecord where
  event : Nat
  cls : EventClass
  clipped : Nat
  quorum : Nat
  phase : Phase
  settled : Tick
  pressure : Option Nat
  pmax : Nat
  deriving DecidableEq, Repr

/-- The SUMMARY record (R104). -/
structure SummaryRecord where
  counters : Counters
  pmax : Nat
  rupture : Bool
  before : Phase
  deriving DecidableEq, Repr

/-- The CONDITION record (R168). -/
structure ConditionRecord where
  condition : Condition
  phase : Phase
  settled : Option Tick
  pendingSet : CondSet
  deriving DecidableEq, Repr

/-- The records of the record queue (R145): HIT, EVENT and the six test records. -/
inductive Record where
  | hit (r : HitRecord)
  | event (r : EventRecord)
  | phase (r : PhaseRecord)
  | onset (r : OnsetRecord)
  | rupture (r : RuptureRecord)
  | summary (r : SummaryRecord)
  | condition (r : ConditionRecord)
  | identity (cause : ResetCause)
  deriving DecidableEq, Repr

/-- The fault record (R163). A selector is a card, a channel, a table code or a kind byte (R176). -/
structure FaultRecord where
  code : FaultCode
  cls : FaultClass
  selector : Option Nat
  settleTick : Option Tick
  second : Option FaultCode
  secondSelector : Option Nat
  halted : Bool
  deriving DecidableEq, Repr

/-- The state content of a READ-STATE answer (R157). -/
structure StateContent where
  phase : Phase
  mutedFrom : Option Phase
  queueLength : Nat
  stalled : Bool
  mark0 : Bool
  mark1 : Bool
  counters : Counters
  ruptured : Bool
  last : Option Tick
  settled : Option Tick
  expected : Vector (Option Tick) 4
  lag : Vector Bool 4
  pressure : Option Nat
  stale : Bool
  pmax : Nat
  fill : Nat
  dense : Bool
  cut : CutState
  faultHeld : Bool
  faultSecond : Bool
  halted : Bool
  pendingSet : CondSet
  seenSet : CondSet
  deriving DecidableEq, Repr

/-- The entries a READ-TABLE answer carries (R132). -/
inductive TableEntries where
  | channel (es : List ChannelEntry)
  | pair (es : List PairEntry)
  | decibel (ls : List Nat)
  | test (t : TestTable)
  deriving DecidableEq, Repr

/-- The data of an answer (R173). -/
inductive AnswerData where
  | none
  | identity
  | entries (table : TableName) (copy : CopyName) (first count : Nat) (es : TableEntries)
  | state (c : StateContent)
  | cleared (set : CondSet)
  deriving DecidableEq, Repr

/-- An answer: the frame's tag and kind, a code, and data (R154, R173). -/
structure Answer where
  tag : Byte
  kind : MgmtKind
  code : AnswerCode
  data : AnswerData
  deriving DecidableEq, Repr

/-- A frame held for pass-through, byte for byte as it arrived (R141, R147). -/
structure PassFrame where
  kind : Byte
  frame : Frame
  deriving DecidableEq, Repr

/-- A frame in transmission (R140). -/
inductive OutFrame where
  | fault (r : FaultRecord)
  | answer (a : Answer)
  | record (r : Record)
  | passed (p : PassFrame)
  deriving DecidableEq, Repr

/-- The record outlet's state (R140). -/
structure Outlet where
  faultSlot : Option FaultRecord
  /-- Filled answers, oldest first. -/
  answers : List Answer
  /-- Reservations whose answer has not been built. -/
  reservations : Nat
  records : List Record
  passBuffer : List PassFrame
  dense : Bool
  cut : CutState
  sending : Option OutFrame
  deriving DecidableEq, Repr

/-! ## Management responder (R154) -/

/-- An accepted management frame: kind, tag and the payload after the tag (R172). -/
structure MgmtFrame where
  kind : MgmtKind
  tag : Byte
  body : List Byte
  deriving DecidableEq, Repr

/-- The management responder's state: the frame in hand and the FIFO of accepted frames (R154). -/
structure Responder where
  inHand : Option MgmtFrame
  waiting : List MgmtFrame
  deriving DecidableEq, Repr

/-! ## Fault and condition unit (R165, R166) -/

/-- The condition set and the halted state (R165, R166). -/
structure FaultUnit where
  pendingSet : CondSet
  seenSet : CondSet
  halted : Bool
  deriving DecidableEq, Repr

/-! ## The whole part -/

/-- The state of the part. -/
structure State where
  tracker : Tracker
  units : Vector ChannelUnit 32
  assembler : Assembler
  controller : Controller
  monitor : Monitor
  staged : Tables
  active : Tables
  outlet : Outlet
  responder : Responder
  faults : FaultUnit
  /-- The ready line from the outlet's receiver, as it stands (R141). -/
  ready : Bool
  /-- How many free values have been drawn (the model's own, log entry 7). -/
  freeDraws : Nat
  /-- The commands that wait, first in, first out (the model's own). -/
  pending : List Instr
  deriving DecidableEq, Repr

/-- Why the machine stops. No rule of the manual stops the part without a next state: a frame or a step that goes wrong is
reported in the fault slot (R164) and HALTED is a state like any other (R165). So there is no fault. -/
inductive Fault where
  deriving DecidableEq, Repr

/-- Why a command has no meaning in the model. -/
inductive Refusal where
  /-- Raised by `exec` for a command that has no meaning yet; no arm answers it. Safe. -/
  | notModelled (mnemonic : String)
  deriving DecidableEq, Repr

/-! ## Updates by block -/

/-- The state with one block's part changed. Each has its field lemmas in Laws/State.lean. -/
def State.onTracker (s : State) (f : Tracker → Tracker) : State := { s with tracker := f s.tracker }
def State.onUnits (s : State) (f : Vector ChannelUnit 32 → Vector ChannelUnit 32) : State :=
  { s with units := f s.units }
def State.onAssembler (s : State) (f : Assembler → Assembler) : State := { s with assembler := f s.assembler }
def State.onController (s : State) (f : Controller → Controller) : State := { s with controller := f s.controller }
def State.onMonitor (s : State) (f : Monitor → Monitor) : State := { s with monitor := f s.monitor }
def State.onStaged (s : State) (f : Tables → Tables) : State := { s with staged := f s.staged }
def State.onActive (s : State) (f : Tables → Tables) : State := { s with active := f s.active }
def State.onOutlet (s : State) (f : Outlet → Outlet) : State := { s with outlet := f s.outlet }
def State.onResponder (s : State) (f : Responder → Responder) : State := { s with responder := f s.responder }
def State.onFaults (s : State) (f : FaultUnit → FaultUnit) : State := { s with faults := f s.faults }
def State.withReady (s : State) (level : Bool) : State := { s with ready := level }
def State.withDraws (s : State) (n : Nat) : State := { s with freeDraws := n }
def State.withPending (s : State) (q : List Instr) : State := { s with pending := q }

/-- The unit of channel `c` changed by `f`. -/
def State.onUnit (s : State) (c : Chan) (f : ChannelUnit → ChannelUnit) : State :=
  s.onUnits fun us => us.set c (f us[c])

/-! ## Reset (R4, R17, R53, R90, R111, R126, R140, R154, R166) -/

/-- The defaults of a channel entry (R127). -/
def ChannelEntry.initial : ChannelEntry :=
  { mode := .off, threshold := 1000, gain := 0, delay := 0, quiet := 800, peakWindow := 200, rearm := 1000,
    limit := 65536, shift := 4, forward := false }

/-- The defaults of a pair entry (R128). -/
def PairEntry.initial : PairEntry := { valid := false, a := 0, b := 0, spacing := 1, velocity := 1 }

/-- The default decibel levels, level[i] = 328 × i (R129). -/
def initialLevels : Vector Nat 100 := ⟨((List.range 100).map (328 * ·)).toArray, by simp⟩

/-- The defaults of the test table (R130). -/
def TestTable.initial : TestTable :=
  { window := 1000, span := 4000, quorum := 4, high := 384, low := 128, cutTiming := .immediate, holdLimit := 10,
    onsetCount := 5, reportMask := .full, mark0 := ⟨.none, 0⟩, mark1 := ⟨.none, 0⟩ }

/-- The four tables at their defaults (R127 to R130). -/
def Tables.initial : Tables :=
  { channels := Vector.replicate 32 .initial, pairs := Vector.replicate 16 .initial, levels := initialLevels,
    test := .initial }

/-- The tracker after power-on reset, link reset, ARM, FINISH and on entry to HALTED: one value in R4's table. -/
def Tracker.initial : Tracker :=
  { expected := Vector.replicate 4 none, lag := Vector.replicate 4 false, last := none, settled := none,
    passInProgress := false, waiting := none }

/-- A channel unit after either reset (R17, R38). -/
def ChannelUnit.initial : ChannelUnit := { serial := 0, ctx := .dark, lane := [] }

/-- The assembler after either reset and after ARM (R53). -/
def Assembler.initial : Assembler :=
  { arrivals := [], slots := Vector.replicate 8 none, eventNumber := 0, inFlight := [] }

/-- All nine counters 0 (R109). -/
def Counters.zero : Counters := ⟨0, 0, 0, 0, 0, 0, 0, 0, 0⟩

/-- The phase controller after either reset (R90). -/
def Controller.initial : Controller :=
  { phase := .idle, mutedFrom := none, queue := [], stalled := false, mark0 := false, mark1 := false,
    phaseEvents := 0, counters := .zero, ruptured := false, ramp := none, lastRamp := 0, unloadNoted := false,
    hold := none }

/-- The pressure monitor after either reset (R111). -/
def Monitor.initial : Monitor := { pressure := none, stale := false, pmax := 0 }

/-- The outlet with all four places empty, dense mode off and no frame in transmission (R140, R152). -/
def Outlet.empty : Outlet :=
  { faultSlot := none, answers := [], reservations := 0, records := [], passBuffer := [], dense := false,
    cut := .none, sending := none }

/-- The responder with nothing in hand and nothing waiting (R154). -/
def Responder.initial : Responder := { inHand := none, waiting := [] }

/-- The fault and condition unit after either reset (R166, R169). -/
def FaultUnit.initial : FaultUnit := { pendingSet := .empty, seenSet := .empty, halted := false }

/-- The part right after a power-on reset: every block at its power-on value, both copies of every table at their
defaults, and the IDENTITY record in the record queue (R140, R152). The ready line is an input, and the manual gives no
level for it: DESIGN CHOICE (log entry 1), deasserted. -/
def State.reset : State :=
  { tracker := .initial
    units := Vector.replicate 32 .initial
    assembler := .initial
    controller := .initial
    monitor := .initial
    staged := .initial
    active := .initial
    outlet := { Outlet.empty with records := [.identity .powerOn] }
    responder := .initial
    faults := .initial
    ready := false
    freeDraws := 0
    pending := [] }

end Sys2Proof.Machine
end

