-- ==== Sys2Proof/Machine/Flags.lean ====
section
/-! DEFINITION. Every flag set and counter the manual computes: condition sets (R130, R166, R171), the sources of the two
marks (R106), and the counters that hold at a top value (R109). -/
namespace Sys2Proof.Machine

/-! ## Condition sets -/

/-- The flag of one condition in a set (R166). -/
def CondSet.has (s : CondSet) : Condition → Bool
  | .denseEntered => s.denseEntered
  | .recordLoss => s.recordLoss
  | .passLoss => s.passLoss
  | .arrivalOverflow => s.arrivalOverflow
  | .eventOverflow => s.eventOverflow
  | .holdActive => s.holdActive
  | .rupture => s.rupture
  | .pressureStale => s.pressureStale
  | .mgmtOverrun => s.mgmtOverrun

/-- The set with the flag of one condition set (R167). -/
def CondSet.insert (s : CondSet) : Condition → CondSet
  | .denseEntered => { s with denseEntered := true }
  | .recordLoss => { s with recordLoss := true }
  | .passLoss => { s with passLoss := true }
  | .arrivalOverflow => { s with arrivalOverflow := true }
  | .eventOverflow => { s with eventOverflow := true }
  | .holdActive => { s with holdActive := true }
  | .rupture => { s with rupture := true }
  | .pressureStale => { s with pressureStale := true }
  | .mgmtOverrun => { s with mgmtOverrun := true }

/-- Two sets combined flag by flag. -/
def CondSet.zipWith (f : Bool → Bool → Bool) (s t : CondSet) : CondSet :=
  { denseEntered := f s.denseEntered t.denseEntered
    recordLoss := f s.recordLoss t.recordLoss
    passLoss := f s.passLoss t.passLoss
    arrivalOverflow := f s.arrivalOverflow t.arrivalOverflow
    eventOverflow := f s.eventOverflow t.eventOverflow
    holdActive := f s.holdActive t.holdActive
    rupture := f s.rupture t.rupture
    pressureStale := f s.pressureStale t.pressureStale
    mgmtOverrun := f s.mgmtOverrun t.mgmtOverrun }

/-- The conditions in either set, in both sets, and in the first but not the second. -/
def CondSet.union (s t : CondSet) : CondSet := s.zipWith (fun a b => a || b) t
def CondSet.inter (s t : CondSet) : CondSet := s.zipWith (fun a b => a && b) t
def CondSet.diff (s t : CondSet) : CondSet := s.zipWith (fun a b => a && !b) t

/-- The nine flags in the order of their bits, 0 to 8 (R171). -/
def CondSet.flags (s : CondSet) : List Bool :=
  [s.denseEntered, s.recordLoss, s.passLoss, s.arrivalOverflow, s.eventOverflow, s.holdActive, s.rupture,
   s.pressureStale, s.mgmtOverrun]

/-- A list of flags as a number, the first flag as bit 0 (R171). -/
def bitsOf : List Bool → Nat
  | [] => 0
  | b :: bs => b.toNat + 2 * bitsOf bs

/-- A condition set as its two-byte field, bits 9 to 15 zero (R171). -/
def CondSet.bits (s : CondSet) : Nat := bitsOf s.flags

/-- The condition set in a two-byte field; bits 9 to 15 are ignored (R171). -/
def condSetOfBits (n : Nat) : CondSet :=
  { denseEntered := n.testBit 0, recordLoss := n.testBit 1, passLoss := n.testBit 2, arrivalOverflow := n.testBit 3,
    eventOverflow := n.testBit 4, holdActive := n.testBit 5, rupture := n.testBit 6, pressureStale := n.testBit 7,
    mgmtOverrun := n.testBit 8 }

/-! ## Marks (R106) -/

/-- The source and parameter of a mark in a test table (R130). -/
def markSpec (t : TestTable) : MarkName → MarkSpec
  | .zero => t.mark0
  | .one => t.mark1

/-- PRESSURE-AT-LEAST and PRESSURE-AT-MOST at a valid PROCESS frame of pressure `p` (R106). -/
def pressureHolds (p : Nat) (m : MarkSpec) : Bool :=
  match m.source with
  | .pressureAtLeast => decide (m.parameter ≤ p)
  | .pressureAtMost => decide (p ≤ m.parameter)
  | _ => false

/-- EVENTS-IN-PHASE with a phase event count of `n` (R106). -/
def eventsHold (n : Nat) (m : MarkSpec) : Bool := m.source == .eventsInPhase && decide (m.parameter ≤ n)

/-- HOLD-QUIET with settled tick `settled` and quiet reference `ref`: settled − ref ≥ q, over the integers (R106). -/
def quietHolds (settled ref : Tick) (m : MarkSpec) : Bool :=
  m.source == .holdQuiet && decide ((m.parameter : Int) ≤ (settled : Int) - ref)

/-- RUPTURE, at each rupture (R106). -/
def ruptureHolds (m : MarkSpec) : Bool := m.source == .rupture

/-- DENSE-ENTRY, at each entry to dense mode (R106). -/
def denseHolds (m : MarkSpec) : Bool := m.source == .denseEntry

/-! ## Counters -/

/-- One more, holding at `top` once it is reached (R109, R116, R118, R119). -/
def countUp (top n : Nat) : Nat := if n < top then n + 1 else n

/-- One more on a test counter (R109) or on the phase event count. That a test counter holds at the top is R109's; of the
phase event count R90 gives only the range, and that it holds there too is the model's choice (DESIGN CHOICE, log
entry 21). -/
def countOn (n : Nat) : Nat := countUp Config.counterMax n

/-! ## Phases -/

/-- The phases in which the channels listen (R18, R91). -/
def listeningPhase : Phase → Bool
  | .armed | .ramp | .hold | .unload => true
  | .idle | .muted | .burst => false

/-- The phases in which a rupture can occur (R123). -/
def rupturePhase : Phase → Bool
  | .ramp | .hold | .unload => true
  | .idle | .armed | .muted | .burst => false

/-- LISTEN or GUARD (R18). -/
def modeListens : Mode → Bool
  | .off => false
  | .listen | .guard => true

/-- The succession table: whether an order examined in this phase is legal (R96). ARM is never examined. -/
def orderLegal : Phase → Order → Bool
  | .armed, .ramp | .armed, .mute | .armed, .swap _ | .armed, .await _ | .armed, .finish => true
  | .ramp, .hold | .ramp, .unload | .ramp, .mute | .ramp, .swap _ | .ramp, .await _ | .ramp, .finish => true
  | .hold, .ramp | .hold, .unload | .hold, .mute | .hold, .swap _ | .hold, .await _ | .hold, .finish => true
  | .unload, .ramp | .unload, .hold | .unload, .mute | .unload, .swap _ | .unload, .await _ | .unload, .finish => true
  | .muted, .unmute | .muted, .swap _ | .muted, .await _ | .muted, .finish => true
  | .burst, .finish => true
  | _, _ => false

end Sys2Proof.Machine
end

