-- ==== Sys2Proof/Machine/Ops.lean ====
section
/-! DEFINITION. The operations several blocks share: the arbiter, offers to the record queue, raising a condition, building
an answer, reporting a fault, and entry to HALTED. -/
namespace Sys2Proof.Machine

/-- The channels in order, 0 to 31. -/
def allChans : List Chan := List.finRange 32

/-- The cards in order, 0 to 3. -/
def allCards : List Card := List.finRange 4

/-- The event slots in order, 0 to 7. -/
def allSlots : List (Fin 8) := List.finRange 8

/-- Every place of a vector changed by `f`. -/
def mapVec {α β : Type} {n : Nat} (f : α → β) (v : Vector α n) : Vector β n := ⟨(v.toList.map f).toArray, by simp⟩

/-- The settled tick of the pass or flush at hand; S is present in both (R73, R121). -/
def passTick (s : State) : Tick := s.tracker.settled.getD 0

/-! ## The arbiter (R141, R142) -/

/-- The choice of the next frame, by strict priority: fault slot, answer queue, record queue, pass-through buffer; the
oldest item within a queue. The item leaves its place as it is chosen. -/
def chooseNext (o : Outlet) : Outlet :=
  match o.faultSlot, o.answers, o.records, o.passBuffer with
  | some r, _, _, _ => { o with faultSlot := none, sending := some (.fault r) }
  | none, a :: as, _, _ => { o with answers := as, sending := some (.answer a) }
  | none, [], r :: rs, _ => { o with records := rs, sending := some (.record r) }
  | none, [], [], p :: ps => { o with passBuffer := ps, sending := some (.passed p) }
  | none, [], [], [] => o

/-- The arbiter chooses when there is no frame in transmission and the ready line is asserted (R141). The manual names no
delay, so it is run as soon as one of its conditions may have changed (DEDUCED, log entry 2). -/
def arbitrate (s : State) : State :=
  if s.ready && s.outlet.sending.isNone then s.onOutlet chooseNext else s

/-! ## Marks and counters of the phase controller -/

/-- Each mark whose source, in the active test table, holds is set; the others stay as they are (R106). -/
def setMarks (holds : MarkSpec → Bool) (s : State) : State :=
  s.onController fun c =>
    { c with mark0 := c.mark0 || holds s.active.test.mark0, mark1 := c.mark1 || holds s.active.test.mark1 }

/-- The test counters changed by `f` (R109). -/
def onCounters (f : Counters → Counters) (s : State) : State :=
  s.onController fun c => { c with counters := f c.counters }

/-! ## Offers to the record queue (R145, R148, R149, R151) -/

/-- What the outlet does with an offered record. -/
inductive Disposition where
  | admitted | dropped | suppressed | discarded
  deriving DecidableEq, Repr

/-- The fill at and above which a record is dropped: 496 for HIT and EVENT records, 512 for test records (R145). -/
def recordLimit : Record → Nat
  | .hit _ | .event _ => Config.dataCapacity
  | .phase _ | .onset _ | .rupture _ | .summary _ | .condition _ | .identity _ => Config.recordCapacity

/-- The outlet's decision on an offer: in HALTED everything is discarded (R151), in dense mode HIT records are suppressed
and GUARDED EVENT records discarded (R149), and otherwise the fill decides (R145). The second outcome of R146's example, a
HIT record dropped at a fill of 496 that a test record brought about, cannot arise by these rules: with a high mark of at
most 496 that admission has entered dense mode, and the HIT record is suppressed (DEDUCED, log entry 26). -/
def disposition (r : Record) (s : State) : Disposition :=
  if s.faults.halted then .discarded
  else
    match r with
    | .hit _ =>
      if s.outlet.dense then .suppressed
      else if s.outlet.records.length < recordLimit r then .admitted else .dropped
    | .event e =>
      if s.outlet.dense && e.cls == .guarded then .discarded
      else if s.outlet.records.length < recordLimit r then .admitted else .dropped
    | _ => if s.outlet.records.length < recordLimit r then .admitted else .dropped

/-- The counter a dropped record moves (R145). -/
def countDropped (r : Record) (c : Counters) : Counters :=
  match r with
  | .hit _ => { c with hitsDropped := countOn c.hitsDropped }
  | .event _ => { c with eventsDropped := countOn c.eventsDropped }
  | _ => { c with testDropped := countOn c.testDropped }

/-- The record joins the queue at its tail (R145). -/
def pushRecord (r : Record) (s : State) : State := s.onOutlet fun o => { o with records := o.records ++ [r] }

/-- The CONDITION record of a condition, with the pending flag of that condition already set (R168). -/
def conditionRecord (c : Condition) (s : State) : Record :=
  .condition { condition := c, phase := s.controller.phase, settled := s.tracker.settled,
               pendingSet := s.faults.pendingSet }

/-- Raising a condition, with `offer` as the way its record reaches the queue (R167): nothing when it is pending;
otherwise the pending flag is set, the record is offered if the report mask says so, and the seen flag is set if the
record was admitted. -/
def raiseWith (offer : Record → State → State) (c : Condition) (s : State) : State :=
  if s.faults.pendingSet.has c then s
  else
    let s1 := s.onFaults fun u => { u with pendingSet := u.pendingSet.insert c }
    if s1.active.test.reportMask.has c then
      let r := conditionRecord c s1
      let s2 := offer r s1
      if disposition r s1 = .admitted then s2.onFaults fun u => { u with seenSet := u.seenSet.insert c } else s2
    else s1

/-- Entry to dense mode (R148): dense mode on, the DENSE-ENTRY marks, the cut by the active cut timing, and then the record
of DENSE-ENTERED. The raise itself comes before the cut in R148; only its record, decided after the cut, shows. -/
def enterDense (offer : Record → State → State) (s : State) : State :=
  let s1 := setMarks denseHolds (s.onOutlet fun o =>
    match s.active.test.cutTiming with
    | .immediate => { o with dense := true, cut := .cut, passBuffer := [] }
    | .atSettle => { o with dense := true, cut := .pending })
  raiseWith offer .denseEntered s1

/-- Whether the record just admitted brings the outlet into dense mode (R148). -/
def entersDense (s : State) : Bool := !s.outlet.dense && decide (s.active.test.high ≤ s.outlet.records.length)

/-- An offer with everything it causes, to `depth` nested offers. An offer may cause a condition, whose record is an offer
of its own; the chain record, DENSE-ENTERED, RECORD-LOSS is the longest there is, since a pending condition offers
nothing and dense mode is entered once (R145, R148, R167). -/
def offerDepth : (depth : Nat) → Record → State → State
  | 0, _, s => s
  | d + 1, r, s =>
    match disposition r s with
    | .discarded => s
    | .suppressed => onCounters (fun c => { c with suppressed := countOn c.suppressed }) s
    | .dropped => raiseWith (offerDepth d) .recordLoss (onCounters (countDropped r) s)
    | .admitted =>
      let s1 := pushRecord r s
      if entersDense s1 then enterDense (offerDepth d) s1 else s1

/-- An offer to the record queue, decided whole before the next (R146); the arbiter then has its turn. -/
def offerRecord (r : Record) (s : State) : State := arbitrate (offerDepth 3 r s)

/-- A condition raised with the fault and condition unit (R167). -/
def raise (c : Condition) (s : State) : State := arbitrate (raiseWith (offerDepth 3) c s)

/-! ## Pass-through offers (R147) -/

/-- A SAMPLE or SETTLE frame offered to the pass-through buffer (R147). -/
def offerPass (p : PassFrame) (s : State) : State :=
  if s.faults.halted || s.outlet.cut == .cut then s
  else if Config.passCapacity ≤ s.outlet.passBuffer.length then
    raise .passLoss (onCounters (fun c => { c with passLost := countOn c.passLost }) s)
  else arbitrate (s.onOutlet fun o => { o with passBuffer := o.passBuffer ++ [p] })

/-! ## Answers (R143, R144) -/

/-- A built answer fills a reservation and joins the answer queue behind every answer built before it (R144). -/
def answer (a : Answer) (s : State) : State :=
  arbitrate (s.onOutlet fun o => { o with answers := o.answers ++ [a], reservations := o.reservations - 1 })

/-- The answer to an order: a code and no data (R173). -/
def orderAnswer (tag : Byte) (code : AnswerCode) : Answer := { tag, kind := .order, code, data := .none }

/-- The answer to a frame abandoned on entry to HALTED (R161). -/
def cancelledAnswer (m : MgmtFrame) : Answer := { tag := m.tag, kind := m.kind, code := .cancelled, data := .none }

/-- Answers built one after the other (R144). -/
def answerEach (as : List Answer) (s : State) : State := as.foldl (fun s a => answer a s) s

/-- Every order in the queue leaves it, answered CANCELLED in queue order (R94, R158). -/
def cancelOrders (s : State) : State :=
  answerEach (s.controller.queue.map fun q => orderAnswer q.tag .cancelled)
    (s.onController fun c => { c with queue := [], stalled := false })

/-! ## Faults and HALTED (R162 to R165) -/

/-- A channel unit stopped without an end sequence: DARK, no hit or rearm part, no sample left to take; the serial is
kept (R36). -/
def darkUnit (u : ChannelUnit) : ChannelUnit := { u with ctx := .dark, lane := [] }

/-- Entry to HALTED: the unit sets the halted state and every block takes its HALTED values (R165; R15, R36, R78, R91,
R151, R161). The order of the directives among the blocks carries no meaning (R165); the CANCELLED answers of the order
queue are built before those of the frames waiting for the responder (DESIGN CHOICE, log entry 6). -/
def enterHalted (s : State) : State :=
  let s1 := s.onFaults fun u => { u with halted := true }
  let s2 := s1.onTracker fun _ => .initial
  let s3 := s2.onUnits (mapVec darkUnit)
  let s4 := s3.onAssembler fun a => { a with arrivals := [], slots := Vector.replicate 8 none, inFlight := [] }
  let s5 := s4.onOutlet fun o => { o with records := [], passBuffer := [] }
  let s6 := cancelOrders (s5.onController fun c =>
    { c with phase := .idle, mutedFrom := none, phaseEvents := 0, ramp := none, hold := none })
  answerEach (s6.responder.waiting.map cancelledAnswer) (s6.onResponder fun r => { r with waiting := [] })

/-- The class a fault code is reported with (R162). -/
def faultClassOf : FaultCode → FaultClass
  | .tickGap | .laneLag | .modeSkip => .trap
  | .frameCheck | .frameForm | .tickOverlap | .settleDisorder | .tableInvalid => .fault

/-- The record a first fault makes (R163, R164). -/
def firstFault (code : FaultCode) (selector : Option Nat) (s : State) : FaultRecord :=
  { code, cls := faultClassOf code, selector, settleTick := s.tracker.last, second := none, secondSelector := none,
    halted := false }

/-- A fault report taken by the fault and condition unit (R164): it fills an empty slot, becomes the second code of a
single fault, or finds a double fault and halts the part. After HALTED is entered a report changes nothing (R165). -/
def reportFault (code : FaultCode) (selector : Option Nat) (s : State) : State :=
  if s.faults.halted then s
  else
    match s.outlet.faultSlot with
    | none => arbitrate (s.onOutlet fun o => { o with faultSlot := some (firstFault code selector s) })
    | some r =>
      match r.second with
      | none => s.onOutlet fun o =>
          { o with faultSlot := some { r with second := some code, secondSelector := selector } }
      | some _ => enterHalted (s.onOutlet fun o => { o with faultSlot := some { r with halted := true, cls := .abort } })

/-! ## The outlet at a taken SETTLE frame (R150) -/

/-- The tick tracker reports a taken SETTLE frame: dense mode is left at or below the low mark, and otherwise a pending cut
begins (R150). -/
def settleTaken (s : State) : State :=
  s.onOutlet fun o =>
    if o.dense then
      if o.records.length ≤ s.active.test.low then { o with dense := false, cut := .none }
      else if o.cut == .pending then { o with cut := .cut }
      else o
    else o

end Sys2Proof.Machine
end

