-- ==== Sys2Proof/Machine/Resets.lean ====
section
/-! DEFINITION. The two resets (R152, R160; R4, R38, R53, R90, R111, R126, R140, R154, R169) and the meaning of the
power-on reset line. -/
namespace Sys2Proof.Machine

/-- What a power-on reset leaves (R152): every block at its power-on values and the IDENTITY record admitted to the empty
record queue; a frame in transmission is abandoned. The ready line is an input and stays at its level (log entry 1); the
commands that wait and the count of free values drawn are the model's own and stay. -/
def powerOnReset (s : State) : State :=
  arbitrate { State.reset with ready := s.ready, freeDraws := s.freeDraws, pending := s.pending }

/-- The RESET-LINK answer (R160, R173). -/
def resetAnswer (tag : Byte) : Answer := { tag, kind := .resetLink, code := .done, data := .none }

/-- What a link reset leaves (R160): every block at its link-reset values, both copies of every table kept, a frame in
transmission completed (sent whole within the step, log entry 8), the places emptied without counts, then the RESET-LINK
answer and the IDENTITY record in their empty queues. -/
def linkReset (tag : Byte) (s : State) : State :=
  arbitrate
    { State.reset with
      staged := s.staged
      active := s.active
      outlet := { Outlet.empty with answers := [resetAnswer tag], records := [.identity .link] }
      ready := s.ready
      freeDraws := s.freeDraws
      pending := s.pending }

/-- POWER_ON_RESET (R152). -/
def execPowerOnReset (s : State) : Host.Outcome State Fault Refusal := .next (powerOnReset s)

end Sys2Proof.Machine
end

