-- ==== Sys2Proof/Machine/Locator.lean ====
section
/-! DEFINITION. The locator (chapter 5): pair selection and position arithmetic for one closing NORMAL event. -/
namespace Sys2Proof.Machine

/-- A valid entry whose channels are `c` and `d` in either order (R80). -/
def pairMatches (c d : Chan) (e : PairEntry) : Bool :=
  e.valid && ((e.a == c && e.b == d) || (e.a == d && e.b == c))

/-- The lowest-indexed entry that matches {c, d}, with its index (R82). -/
def findPair (pairs : Vector PairEntry 16) (c d : Chan) : Option (Fin 16) :=
  (List.finRange 16).find? fun i => pairMatches c d pairs[i]

/-- The partner and the locating entry: the first later member whose channel, with `c1`, some entry matches, both channels
being LISTEN in the active channel table (R81, R82). -/
def findPartner (t : Tables) (c1 : Chan) : List Arrival → Option (Arrival × Fin 16)
  | [] => none
  | m :: ms =>
    if t.channels[c1].mode == .listen && t.channels[m.chan].mode == .listen then
      match findPair t.pairs c1 m.chan with
      | some i => some (m, i)
      | none => findPartner t c1 ms
    else findPartner t c1 ms

/-- num = D × 1000 − v × Δt, over the integers (R84, R85). -/
def positionNum (e : PairEntry) (ta tb : Tick) : Int :=
  (e.spacing : Int) * 1000 - (e.velocity : Int) * ((tb : Int) - (ta : Int))

/-- Position and OUTSIDE flag from num (R86, R87). -/
def positionOf (e : PairEntry) (num : Int) : Nat × Bool :=
  if num < 0 then (0, true)
  else if 2 * (e.spacing : Int) * 1000 < num then (e.spacing, true)
  else ((num / 2000).toNat, false)

/-- The located result of the pair `i`, for the first member `m1` and the partner `m2` (R84 to R88). -/
def locatedBy (t : Tables) (m1 m2 : Arrival) (i : Fin 16) : Located :=
  let e := t.pairs[i]
  let ta := if e.a = m1.chan then m1.tick else m2.tick
  let tb := if e.a = m1.chan then m2.tick else m1.tick
  let p := positionOf e (positionNum e ta tb)
  { pair := i, a := e.a, b := e.b, spacing := e.spacing, position := p.1, outside := p.2 }

/-- The locator's result for an event's members: located when a pair qualifies, otherwise zonal on the first member's
channel (R82, R83). An event has at least one member (R60); a list without one has no location. -/
def locate (t : Tables) : List Arrival → Option Location
  | [] => none
  | m1 :: later =>
    some { zone := m1.chan, located := (findPartner t m1.chan later).map fun mi => locatedBy t m1 mi.1 mi.2 }

end Sys2Proof.Machine
end

