-- ==== Sys2Proof/Machine/Arrivals.lean ====
section
/-! DEFINITION. What the event assembler does between passes as well as in them: listing an arrival (R54 to R56), and
applying clip and end notices (R57, R58). -/
namespace Sys2Proof.Machine

/-- `x` stands before `e` in the arrival list: an earlier compensated tick, or the same tick and a lower channel (R54). -/
def precedes (x e : Arrival) : Bool := decide (x.tick < e.tick) || (x.tick == e.tick && decide (x.chan < e.chan))

/-- The list with `x` at the place its tick and channel give it; behind an entry of the same tick and channel, which can
only be of an earlier hit (DEDUCED, log entry 5). -/
def insertArrival (x : Arrival) : List Arrival → List Arrival
  | [] => [x]
  | e :: es => if precedes x e then x :: e :: es else e :: insertArrival x es

/-- The listing outcome of an arrival at compensated tick `t` (R55): LATE below S, otherwise UNLISTED when the list holds
64 entries, otherwise LISTED. -/
def listingOf (t : Tick) (s : State) : Listing :=
  if (match s.tracker.settled with | some settled => decide (t < settled) | none => false) then .late
  else if Config.arrivalCapacity ≤ s.assembler.arrivals.length then .unlisted
  else .listed

/-- A hit that joins no event is reported to the phase controller (R56). -/
def countUnassociated (s : State) : State :=
  onCounters (fun c => { c with unassociated := countOn c.unassociated }) s

/-- The arrival-list entry of a hit as it is listed: clip and ended clear, peak dB absent (R54). -/
def newArrival (c : Chan) (serial : Nat) (t : Tick) (mode : Mode) : Arrival :=
  { chan := c, serial, tick := t, mode, clip := false, ended := false, peakDb := none }

/-- The effect of an arrival with the outcome that R55 gives it (R55, R56). -/
def takeArrival (x : Arrival) (s : State) : State :=
  match listingOf x.tick s with
  | .late => countUnassociated s
  | .unlisted => raise .arrivalOverflow (countUnassociated s)
  | .listed => s.onAssembler fun a => { a with arrivals := insertArrival x a.arrivals }

/-- The entry or member is the one of this (channel, serial) pair. -/
def isPair (c : Chan) (serial : Nat) (x : Arrival) : Bool := x.chan == c && x.serial == serial

/-- `f` at the pair's entry. -/
def atPair (c : Chan) (serial : Nat) (f : Arrival → Arrival) (x : Arrival) : Arrival :=
  if isPair c serial x then f x else x

/-- A notice applied where the hit stands: at its arrival-list entry if there is one, otherwise at the member of an open
event, otherwise nowhere (R57, R58). -/
def applyNotice (c : Chan) (serial : Nat) (f : Arrival → Arrival) (a : Assembler) : Assembler :=
  if a.arrivals.any (isPair c serial) then { a with arrivals := a.arrivals.map (atPair c serial f) }
  else
    { a with
      slots := mapVec (fun slot => slot.map fun e => { e with members := e.members.map (atPair c serial f) }) a.slots }

/-- A clip notice sets the clip flag (R57). -/
def clipNotice (c : Chan) (serial : Nat) (s : State) : State :=
  s.onAssembler (applyNotice c serial fun x => { x with clip := true })

/-- What an end notice changes in the entry or member (R58). -/
def markEnded (n : EndNotice) (x : Arrival) : Arrival :=
  { x with ended := true, peakDb := some n.peakDb, clip := x.clip || n.clip }

/-- An end notice taken by the assembler (R58). -/
def endNotice (n : EndNotice) (s : State) : State := s.onAssembler (applyNotice n.chan n.serial (markEnded n))

/-- An end notice on its way, to be taken at the end of the assembler's stage (R71, log entry 7). -/
def holdNotice (n : EndNotice) (s : State) : State := s.onAssembler fun a => { a with inFlight := a.inFlight ++ [n] }

/-- The assembler takes every end notice still on its way (R71). -/
def deliverNotices (s : State) : State :=
  s.assembler.inFlight.foldl (fun s n => endNotice n s) (s.onAssembler fun a => { a with inFlight := [] })

end Sys2Proof.Machine
end

