-- ==== Sys2Proof/Machine/Features.lean ====
section
/-! DEFINITION. The features of an ended hit (R39 to R45) and its HIT record (R47 to R50). -/
namespace Sys2Proof.Machine

/-- The magnitude of a sample: −32768 gives 32768 (R19). -/
def magnitude (x : Int) : Nat := x.natAbs

/-- A clipped sample (R19). -/
def clipped (x : Int) : Bool := x == 32767 || x == -32768

/-- The three kinds of end (R29, R30, R32). -/
inductive HitEnd where
  | normal | long | truncated
  deriving DecidableEq, Repr

/-- The end tick: raw arrival + L − 1 after a LONG end, otherwise the last supra-threshold tick (R39). -/
def endTick (h : Hit) : HitEnd → Tick
  | .long => h.raw + h.snap.limit - 1
  | .normal | .truncated => h.lastSupra

/-- The duration, both ends included (R40). -/
def duration (h : Hit) (k : HitEnd) : Nat := endTick h k + 1 - h.raw

/-- The rise (R41). -/
def rise (h : Hit) : Nat := h.peakTick - h.raw

/-- The magnitude sum over the hit's ticks: an unfinished quiet run belongs to a LONG hit only (R30, R43). -/
def magnitudeSum (h : Hit) : HitEnd → Nat
  | .long => h.energy + h.quietSum
  | .normal | .truncated => h.energy

/-- The energy: shifted down by the snapshot's shift, then saturated (R43). -/
def energyOf (h : Hit) (k : HitEnd) : Nat := min (magnitudeSum h k / 2 ^ h.snap.shift) Config.energyMax

/-- The largest index at or after `i` whose level is at most `peak`, or `best` when there is none. -/
def lastStep (peak : Nat) : List Nat → (i best : Nat) → Nat
  | [], _, best => best
  | l :: ls, i, best => lastStep peak ls (i + 1) (if l ≤ peak then i else best)

/-- The raw step: the largest index i with level[i] ≤ peak magnitude, 0 when no index qualifies (R44). -/
def rawStep (levels : Vector Nat 100) (peak : Nat) : Nat := lastStep peak levels.toList 0 0

/-- Raw step plus gain offset, clamped to 0..127 (R45). -/
def clampDb (step : Nat) (gain : Int) : Nat := min ((step : Int) + gain).toNat 127

/-- The peak dB of a hit on channel `c`, by the active decibel table and the gain of the active entry (R44 to R46). -/
def peakDbOf (c : Chan) (h : Hit) (s : State) : Nat :=
  clampDb (rawStep s.active.levels h.peak) s.active.channels[c].gain

/-- The HIT record built at step 3 of the end sequence, with phase stamp `ph` (R47 to R50). -/
def hitRecord (c : Chan) (serial : Nat) (h : Hit) (k : HitEnd) (ph : Phase) (s : State) : HitRecord :=
  { chan := c
    serial := serial
    raw := h.raw
    comp := h.comp
    endTick := endTick h k
    duration := duration h k
    rise := rise h
    peak := h.peak
    peakDb := peakDbOf c h s
    crossings := h.crossings
    energy := energyOf h k
    shift := h.snap.shift
    phase := ph
    pressure := s.monitor.pressure
    clip := h.clip
    long := k == .long
    truncated := k == .truncated
    late := h.listing == .late
    unlisted := h.listing == .unlisted
    guarded := h.snap.mode == .guard }

/-- The end notice of step 2 of the end sequence (R37, R52). -/
def hitNotice (c : Chan) (serial : Nat) (h : Hit) (s : State) : EndNotice :=
  { chan := c, serial := serial, clip := h.clip, peakDb := peakDbOf c h s }

end Sys2Proof.Machine
end

