-- ==== Sys2Proof/Machine/Hits.lean ====
section
/-! DEFINITION. The channel units (chapter 2): what a unit does with one sample (R19, R22, R25 to R31), how a hit ends
(R37), the truncation and stop directives (R32 to R36), the readying of contexts (R20), and how a card's frame is handed to
its units (R9).

A unit takes each sample as one event, whole (R19). The three samples that the opcode table makes steps of their own (the
one that ends a hit normally, the one that ends it LONG, the first one at or above a readiness tick) stay at the front of
the unit's lane until that step comes; the samples before them are taken as they are handed (log entry 4). -/
namespace Sys2Proof.Machine

/-- The context of channel `c` replaced. -/
def setCtx (c : Chan) (ctx : Context) (s : State) : State := s.onUnit c fun u => { u with ctx := ctx }

/-- What a starting hit copies from the active entry (R22 step 1). -/
def snapshotOf (e : ChannelEntry) : Snapshot :=
  { threshold := e.threshold, quiet := e.quiet, peakWindow := e.peakWindow, limit := e.limit, rearm := e.rearm,
    shift := e.shift, delay := e.delay, mode := e.mode }

/-! ## Ends (R37) -/

/-- The end sequence of the hit `h` on channel `c`, with phase stamp `ph`: features, end notice, HIT record (R37 steps 1 to
3); the offer moves the hits counter whatever the outlet decides (R51). With `held` the end notice is on its way until the
end of the assembler's stage (R71), and the HIT record is offered here all the same, ahead of the notice's effect (DESIGN
CHOICE, log entry 28). Step 4, the context, is the caller's. -/
def endSequence (c : Chan) (h : Hit) (k : HitEnd) (ph : Phase) (held : Bool) (s : State) : State :=
  let serial := s.units[c].serial
  let n := hitNotice c serial h s
  let s1 := if held then holdNotice n s else endNotice n s
  let s2 := onCounters (fun c => { c with hits := countOn c.hits }) s1
  offerRecord (.hit (hitRecord c serial h k ph s2)) s2

/-- A normal or LONG end at detection tick `t`: the end sequence, then REARM with readiness tick t + R + 1 (R29 to R31). -/
def endHit (c : Chan) (h : Hit) (k : HitEnd) (t : Tick) (s : State) : State :=
  setCtx c (.rearm (t + h.snap.rearm + 1)) (endSequence c h k s.controller.phase false s)

/-! ## Samples -/

/-- The bookkeeping of one sample of an OPEN hit: crossings (R25), peak (R26), clip (R27), energy and quiet run (R28). -/
def trackHit (h : Hit) (x : LaneSample) : Hit :=
  let m := magnitude x.value
  let isAbove := decide (h.snap.threshold ≤ m)
  let inWindow := decide (x.tick < h.raw + h.snap.peakWindow)
  { h with
    crossings := if isAbove && !h.above then countUp Config.count16Max h.crossings else h.crossings
    above := isAbove
    peak := if inWindow && decide (h.peak < m) then m else h.peak
    peakTick := if inWindow && decide (h.peak < m) then x.tick else h.peakTick
    clip := h.clip || clipped x.value
    energy := if isAbove then h.energy + h.quietSum + m else h.energy
    quietRun := if isAbove then 0 else h.quietRun + 1
    quietSum := if isAbove then 0 else h.quietSum + m
    lastSupra := if isAbove then x.tick else h.lastSupra }

/-- The hit parts after steps 1 to 7 of a start at sample `x` (R22), with the listing outcome that came back (R23). -/
def startedHit (e : ChannelEntry) (x : LaneSample) (listing : Listing) : Hit :=
  { snap := snapshotOf e
    raw := x.tick
    comp := x.tick - e.delay
    listing := listing
    lastSupra := x.tick
    above := true
    crossings := 1
    peak := magnitude x.value
    peakTick := x.tick
    clip := clipped x.value
    energy := magnitude x.value
    quietRun := 0
    quietSum := 0 }

/-- The start of a hit on channel `c` at sample `x` (R22): serial, arrival, hit parts, clip notice, and the LONG end at
once when L is 1. -/
def startHit (c : Chan) (x : LaneSample) (s : State) : State :=
  let e := s.active.channels[c]
  let serial := (s.units[c].serial + 1) % Config.serialModulus
  let a := newArrival c serial (x.tick - e.delay) e.mode
  let h := startedHit e x (listingOf a.tick s)
  let s1 := (takeArrival a s).onUnit c fun u => { u with serial := serial, ctx := .openHit h }
  let s2 := if h.clip then clipNotice c serial s1 else s1
  if e.limit ≤ 1 then endHit c h .long x.tick s2 else s2

/-- A sample in READY: it starts a hit when its magnitude is at least the active threshold and the active mode is not OFF
(R18, R22). -/
def takeReady (c : Chan) (x : LaneSample) (s : State) : State :=
  let e := s.active.channels[c]
  if modeListens e.mode && decide (e.threshold ≤ magnitude x.value) then startHit c x s else s

/-- A sample of an OPEN hit: bookkeeping with the clip notice at the first clipped sample (R25 to R28), then the normal-end
check (R29), then the length-limit check (R30). -/
def takeOpen (c : Chan) (h : Hit) (x : LaneSample) (s : State) : State :=
  let h1 := trackHit h x
  let s1 := if clipped x.value && !h.clip then clipNotice c s.units[c].serial s else s
  let s2 := setCtx c (.openHit h1) s1
  if h1.snap.quiet ≤ h1.quietRun then endHit c h1 .normal x.tick s2
  else if h1.raw + h1.snap.limit ≤ x.tick + 1 then endHit c h1 .long x.tick s2
  else s2

/-- One sample taken by the unit of channel `c`, whole (R19). -/
def takeSample (c : Chan) (x : LaneSample) (s : State) : State :=
  match s.units[c].ctx with
  | .dark => s
  | .ready => takeReady c x s
  | .openHit h => takeOpen c h x s
  | .rearm t => if x.tick < t then s else takeReady c x (setCtx c .ready s)

/-- The step of the opcode table in which a unit takes a sample: one of its own for the three samples above, and
`ordinary` for the others. -/
inductive UnitEvent where
  | ordinary | normalEnd | longEnd | rearmEnd
  deriving DecidableEq, Repr

/-- The step in which a unit in context `ctx` takes the sample `x` (R29, R30, R31). -/
def sampleEvent (ctx : Context) (x : LaneSample) : UnitEvent :=
  match ctx with
  | .dark | .ready => .ordinary
  | .openHit h =>
    let h1 := trackHit h x
    if h1.snap.quiet ≤ h1.quietRun then .normalEnd
    else if h1.raw + h1.snap.limit ≤ x.tick + 1 then .longEnd
    else .ordinary
  | .rearm t => if x.tick < t then .ordinary else .rearmEnd

/-- The unit of channel `c` takes the oldest sample of its lane. -/
def takeHead (c : Chan) (s : State) : State :=
  match s.units[c].lane with
  | [] => s
  | x :: xs => takeSample c x (s.onUnit c fun u => { u with lane := xs })

/-- The step that the oldest sample of the lane waits for. -/
def dueEvent (c : Chan) (s : State) : UnitEvent :=
  match s.units[c].lane with
  | [] => .ordinary
  | x :: _ => sampleEvent s.units[c].ctx x

/-- The unit takes samples, at most `n`, until its lane is empty or its oldest sample waits for a step of its own. -/
def runLane : (n : Nat) → Chan → State → State
  | 0, _, s => s
  | n + 1, c, s =>
    if s.units[c].lane.isEmpty || dueEvent c s != .ordinary then s else runLane n c (takeHead c s)

/-- The unit takes every sample it can without a step of its own. -/
def runUnit (c : Chan) (s : State) : State := runLane s.units[c].lane.length c s

/-- The unit takes the next `n` samples of its lane, whichever steps they are. -/
def takeLane : (n : Nat) → Chan → State → State
  | 0, _, s => s
  | n + 1, c, s => takeLane n c (takeHead c s)

/-- The unit takes every sample it has been handed. -/
def drainUnit (c : Chan) (s : State) : State := takeLane s.units[c].lane.length c s

/-- The step `ev` of channel `c`: when the oldest sample of its lane waits for that step, it is taken, and the unit goes
on. When it does not, the event has not come about and nothing changes (log entry 9). -/
def unitStep (ev : UnitEvent) (c : Chan) (s : State) : State :=
  if !s.units[c].lane.isEmpty && dueEvent c s == ev then runUnit c (takeHead c s) else s

/-! ## Handing a frame to a card's units (R9) -/

/-- Channel of lane `l` of card `k`: k × 8 + l (R1). -/
def laneChan (k : Card) (l : Fin 8) : Chan := ⟨k.val * 8 + l.val, by omega⟩

/-- The eight channels of a card, lane 0 first (R1). -/
def cardChans (k : Card) : List Chan := (List.finRange 8).map (laneChan k)

/-- One sample joins the lane of channel `c`, and the unit takes what it can. -/
def handSample (c : Chan) (x : LaneSample) (s : State) : State :=
  runUnit c (s.onUnit c fun u => { u with lane := u.lane ++ [x] })

/-- One sample set handed to the eight units of a card, lane 0 first (R9). -/
def handSet (k : Card) (t : Tick) (values : List Int) (s : State) : State :=
  (List.finRange 8).foldl (fun s l => handSample (laneChan k l) ⟨t, values.getD l.val 0⟩ s) s

/-- The sample sets of a taken frame handed in tick order from `start` (R9). -/
def handSets (k : Card) : (start : Tick) → List (List Int) → State → State
  | _, [], s => s
  | t, v :: vs, s => handSets k (t + 1) vs (handSet k t v s)

/-- The units of a card take every sample of the frames taken before (log entry 4). -/
def drainCard (k : Card) (s : State) : State := (cardChans k).foldl (fun s c => drainUnit c s) s

/-- All 32 units take every sample of the frames taken before (R13). -/
def drainAll (s : State) : State := allChans.foldl (fun s c => drainUnit c s) s

/-! ## Directives (R32 to R36) -/

/-- A gap or a lag reaches a unit: an OPEN hit ends TRUNCATED and the context goes READY; other contexts are unchanged
(R32, R33). -/
def truncateUnit (c : Chan) (s : State) : State :=
  match s.units[c].ctx with
  | .openHit h => setCtx c .ready (endSequence c h .truncated s.controller.phase false s)
  | .dark | .ready | .rearm _ => s

/-- A gap or a lag reaches the eight units of a card (R33). -/
def truncateCard (k : Card) (s : State) : State := (cardChans k).foldl (fun s c => truncateUnit c s) s

/-- A stop directive reaches a unit, with the phase that the HIT record is stamped with (R34, R35, R50): an OPEN hit ends
TRUNCATED; the context goes DARK; samples not yet taken will be ignored as in DARK. With `mayHold` the end notice may be on
its way until the end of the assembler's stage, as the free value says (R71); the HIT record is offered at once either way
(DESIGN CHOICE, log entry 28). -/
def stopUnit (ph : Phase) (mayHold : Bool) (c : Chan) (s : State) : State :=
  match s.units[c].ctx with
  | .openHit h =>
    let held := mayHold && Config.noticeHeldBack s.freeDraws
    let s1 := if mayHold then s.withDraws (s.freeDraws + 1) else s
    (endSequence c h .truncated ph held s1).onUnit c darkUnit
  | .dark | .ready | .rearm _ => s.onUnit c darkUnit

/-- A stop directive reaches all 32 units, channel 0 first (R34). -/
def stopAll (ph : Phase) (mayHold : Bool) (s : State) : State :=
  allChans.foldl (fun s c => stopUnit ph mayHold c s) s

/-- A DARK context becomes READY (R20). -/
def readyUnit (u : ChannelUnit) : ChannelUnit := if u.ctx = .dark then { u with ctx := .ready } else u

/-- The DARK contexts of LISTEN and GUARD channels become READY, as at UNMUTE (R20, R100). -/
def readyListening (s : State) : State :=
  allChans.foldl (fun s c => if modeListens s.active.channels[c].mode then s.onUnit c readyUnit else s) s

/-- The contexts as ARM sets them: READY for a LISTEN or GUARD channel, otherwise DARK; serials kept (R17). -/
def armUnits (s : State) : State :=
  allChans.foldl (fun s c => s.onUnit c fun u =>
    { u with ctx := if modeListens s.active.channels[c].mode then .ready else .dark, lane := [] }) s

end Sys2Proof.Machine
end

