-- ==== Sys2Proof/Machine/Phases.lean ====
section
/-! DEFINITION. Changes of phase (R97, R108), ramps and onset (R118 to R121), holds (R115 to R117), the close report (R122)
and the rupture (R123 to R125). -/
namespace Sys2Proof.Machine

/-! ## Holds and ramps -/

/-- The hold part of the PHASE record that ends a hold (R108, R117). -/
def holdPart (h : Hold) (interrupted : Bool) (s : State) : HoldPart :=
  { tally := h.tally, span := passTick s - h.entry, interrupted }

/-- A hold begins at the S of the pass (R115). -/
def beginHold (s : State) : State :=
  let t := passTick s
  s.onController fun c => { c with hold := some { entry := t, tally := 0, quietRef := t } }

/-- The ONSET record of a reload ramp that ends undecided (R120, R121). -/
def onsetNone (r : Ramp) (s : State) : OnsetRecord :=
  { ramp := r.number, outcome := .none, pref := r.pref.getD 0, count := s.active.test.onsetCount, events := r.events,
    settled := passTick s, deciding := none, pon := none, ratio := none, above := false, stale := false }

/-- A ramp in progress ends: with its ONSET record when it is a reload ramp still UNDECIDED (R120). -/
def endRamp (s : State) : State :=
  match s.controller.ramp with
  | none => s
  | some r =>
    let s1 := if r.reload && r.onset == .undecided then offerRecord (.onset (onsetNone r s)) s else s
    s1.onController fun c => { c with ramp := none }

/-- The ramp that a RAMP order begins (R118). -/
def newRamp (s : State) : Ramp :=
  let reload := s.controller.unloadNoted && decide (0 < s.monitor.pmax)
  { number := countUp Config.count16Max s.controller.lastRamp
    reload
    pref := if reload then some s.monitor.pmax else none
    events := 0
    onset := if reload then .undecided else .notTracked }

/-- A new ramp begins; the unload-noted flag is cleared last (R118). -/
def beginRamp (s : State) : State :=
  let r := newRamp s
  s.onController fun c => { c with ramp := some r, lastRamp := r.number, unloadNoted := false }

/-! ## Change of phase (R97) -/

/-- What leaving the phase for `new` fixes of a hold in progress (R117). -/
def leavingHold (new : Phase) (s : State) : Option HoldPart :=
  if s.controller.phase = .hold then s.controller.hold.map fun h => holdPart h (new == .muted) s else none

/-- The phase left is ended: a ramp unless MUTE pauses it, a hold always (R97 first step, R99, R117, R120). -/
def leavePhase (new : Phase) (s : State) : State :=
  match s.controller.phase with
  | .ramp => if new = .muted then s else endRamp s
  | .hold => s.onController fun c => { c with hold := none }
  | .idle | .armed | .unload | .muted | .burst => s

/-- The PHASE record of a change (R108, R114). -/
def phaseRecord (old new : Phase) (hold : Option HoldPart) (s : State) : PhaseRecord :=
  { old, new, settled := s.tracker.settled, pressure := s.monitor.pressure, events := s.controller.counters.events,
    hold }

/-- The first three steps of a change of phase (R97): the phase left ends, the phase and the phase event count take their
new values, the PHASE record is offered. The fourth step is the caller's. -/
def changePhase (new : Phase) (s : State) : State :=
  let old := s.controller.phase
  let part := leavingHold new s
  let s1 := leavePhase new s
  let s2 := s1.onController fun c => { c with phase := new, phaseEvents := 0 }
  offerRecord (.phase (phaseRecord old new part s2)) s2

/-! ## The close report (R122) -/

/-- What the assembler reports of a close (R71). -/
structure CloseReport where
  number : Nat
  cls : EventClass
  first : Tick
  clipped : Nat
  deriving DecidableEq, Repr

/-- Pon as a fraction of Pref in thousandths, at most 1000 (R120). -/
def onsetRatio (pon pref : Nat) : Nat := min (pon * 1000 / pref) 1000

/-- The ONSET record of a decision at the close of event `number` (R120, R121). -/
def onsetDecided (r : Ramp) (number : Nat) (s : State) : OnsetRecord :=
  let pref := r.pref.getD 0
  { ramp := r.number, outcome := .decided, pref, count := s.active.test.onsetCount, events := r.events,
    settled := passTick s, deciding := some number, pon := s.monitor.pressure,
    ratio := s.monitor.pressure.map fun p => onsetRatio p pref,
    above := match s.monitor.pressure with | some p => decide (pref ≤ p) | none => false,
    stale := s.monitor.stale }

/-- A NORMAL close in RAMP: the ramp's event count, and the onset decision of an UNDECIDED reload ramp (R119, R120). -/
def rampClose (number : Nat) (s : State) : State :=
  match s.controller.ramp with
  | none => s
  | some r =>
    let r1 := { r with events := countUp Config.count16Max r.events }
    if r1.reload && r1.onset == .undecided && decide (s.active.test.onsetCount ≤ r1.events) then
      offerRecord (.onset (onsetDecided r1 number s))
        (s.onController fun c => { c with ramp := some { r1 with onset := .decided } })
    else s.onController fun c => { c with ramp := some r1 }

/-- A NORMAL close in HOLD: tally, quiet reference, and HOLD-ACTIVE when the tally exceeds the hold limit (R106, R116). -/
def holdClose (first : Tick) (s : State) : State :=
  match s.controller.hold with
  | none => s
  | some h =>
    let tally := countUp Config.count16Max h.tally
    let s1 := s.onController fun c => { c with hold := some { h with tally, quietRef := first } }
    if s.active.test.holdLimit < tally then raise .holdActive s1 else s1

/-- Step 2 of the close report, for a NORMAL event (R122): phase event count, EVENTS-IN-PHASE, then the figures of the
phase. -/
def normalClose (r : CloseReport) (s : State) : State :=
  let s1 := s.onController fun c => { c with phaseEvents := countOn c.phaseEvents }
  let s2 := setMarks (eventsHold s1.controller.phaseEvents) s1
  match s2.controller.phase with
  | .hold => holdClose r.first s2
  | .ramp => rampClose r.number s2
  | .idle | .armed | .unload | .muted | .burst => s2

/-- The RUPTURE record (R125). -/
def ruptureRecord (r : CloseReport) (s : State) : RuptureRecord :=
  { event := r.number, cls := r.cls, clipped := r.clipped, quorum := s.active.test.quorum, phase := s.controller.phase,
    settled := passTick s, pressure := s.monitor.pressure, pmax := s.monitor.pmax }

/-- The check of R123: an eligible phase, and a clipped count that meets the quorum. -/
def isRupture (r : CloseReport) (s : State) : Bool :=
  rupturePhase s.controller.phase && decide (s.active.test.quorum ≤ r.clipped)

/-- A rupture is carried out (R124): flag, RUPTURE record, condition, marks, change to BURST, stop of all 32 units stamped
with the phase left. The steps put the ONSET record of a ramp that ends undecided after RUPTURE, and the rule's sentence on
the order of records puts any ONSET before it; the model follows the steps (DEDUCED, log entry 23). R71 hands the end notices of
the truncated hits during the rest of the pass, and R37 puts each HIT record behind its notice; when the records are offered
is left open, and the model offers all of them here, before the EVENT records of the slots examined later (DESIGN CHOICE, log
entry 28). -/
def rupture (r : CloseReport) (s : State) : State :=
  let left := s.controller.phase
  let s1 := s.onController fun c => { c with ruptured := true }
  let s2 := offerRecord (.rupture (ruptureRecord r s1)) s1
  let s3 := raise .rupture s2
  let s4 := setMarks ruptureHolds s3
  let s5 := changePhase .burst s4
  stopAll left true s5

/-- The phase controller handles a close report (R122). -/
def closeReport (r : CloseReport) (s : State) : State :=
  let s1 := onCounters (fun c =>
    { c with
      events := countOn c.events
      guarded := if r.cls = .guarded then countOn c.guarded else c.guarded }) s
  let s2 := if r.cls = .normal then normalClose r s1 else s1
  if isRupture r s2 then rupture r s2 else s2

end Sys2Proof.Machine
end

