-- ==== Sys2Proof/Machine/Assembly.lean ====
section
/-! DEFINITION. The assembler's stage of a settle pass and the flush of FINISH: taking arrivals into events (R61, R62),
examining and closing events (R64, R66 to R74), and the flush (R77). -/
namespace Sys2Proof.Machine

/-! ## Taking arrivals (R61, R62) -/

/-- The open event can receive the arrival: its tick lies in the window, the channel is new to the event, a place is free
(R62). -/
def isCandidate (x : Arrival) (e : Event) : Bool :=
  decide (e.first ≤ x.tick) && decide (x.tick ≤ e.first + e.window) && !e.members.any (fun m => m.chan == x.chan) &&
    decide (e.members.length < Config.memberCapacity)

/-- The better of a slot found so far and slot `i`: the earlier first tick, and the lower slot at equal ticks, since slots
are looked at in order (R62). -/
def betterSlot (x : Arrival) (slots : Vector (Option Event) 8) (best : Option (Fin 8 × Tick)) (i : Fin 8) :
    Option (Fin 8 × Tick) :=
  match slots[i] with
  | none => best
  | some e =>
    if isCandidate x e then
      match best with
      | none => some (i, e.first)
      | some (j, f) => if e.first < f then some (i, e.first) else some (j, f)
    else best

/-- The slot of the candidate event the arrival joins (R62). -/
def candidateSlot (x : Arrival) (slots : Vector (Option Event) 8) : Option (Fin 8) :=
  (allSlots.foldl (betterSlot x slots) none).map Prod.fst

/-- The lowest-numbered free slot (R59). -/
def freeSlot (slots : Vector (Option Event) 8) : Option (Fin 8) := allSlots.find? fun i => slots[i].isNone

/-- The event number after `n`: 1 follows the largest (R59). -/
def nextEventNumber (n : Nat) : Nat := if n < Config.eventNumberMax then n + 1 else 1

/-- The event that the arrival opens (R59, R62). -/
def openedEvent (x : Arrival) (number : Nat) (t : TestTable) : Event :=
  { number, first := x.tick, window := t.window, span := t.span, guarded := x.mode == .guard, members := [x] }

/-- The arrival joins the event in slot `i` as its last member (R60, R62). -/
def joinEvent (x : Arrival) (i : Fin 8) (a : Assembler) : Assembler :=
  { a with slots := a.slots.set i (a.slots[i].map fun e => { e with members := e.members ++ [x] }) }

/-- A taken arrival is placed: it joins a candidate, opens an event, or is unassociated with EVENT-OVERFLOW (R62). -/
def placeArrival (x : Arrival) (s : State) : State :=
  match candidateSlot x s.assembler.slots with
  | some i => s.onAssembler (joinEvent x i)
  | none =>
    match freeSlot s.assembler.slots with
    | some i =>
      let number := nextEventNumber s.assembler.eventNumber
      s.onAssembler fun a =>
        { a with slots := a.slots.set i (some (openedEvent x number s.active.test)), eventNumber := number }
    | none => raise .eventOverflow (countUnassociated s)

/-- The entry leaves the list and is placed before the next one is taken (R61). -/
def takeEntry (x : Arrival) (s : State) : State :=
  placeArrival x (s.onAssembler fun a => { a with arrivals := a.arrivals.tail })

/-- The assembler takes these entries from the front of the list, one at a time (R61). -/
def takeEntries (xs : List Arrival) (s : State) : State := xs.foldl (fun s x => takeEntry x s) s

/-- The entries at the front of the list that lie below `t` (R61). -/
def settledEntries (t : Tick) (s : State) : List Arrival := s.assembler.arrivals.takeWhile fun x => decide (x.tick < t)

/-! ## Closing an event (R64, R66 to R74) -/

/-- Why an open event closes in a pass with settled tick `t`, if it does (R64). -/
def closeReasonAt (e : Event) (t : Tick) : Option CloseReason :=
  if e.first + e.window < t ∧ e.members.all (·.ended) then some .complete
  else if e.first + e.window + e.span < t then some .span
  else none

/-- The class of an event (R67). -/
def eventClass (e : Event) : EventClass := if e.guarded then .guarded else .normal

/-- The number of members whose clip flag is set (R69). -/
def clippedCount (e : Event) : Nat := (e.members.filter (·.clip)).length

/-- A member as the EVENT record reports it (R72, R74). -/
def memberRecord (x : Arrival) : MemberRecord :=
  { chan := x.chan, serial := x.serial, tick := x.tick, mode := x.mode, clip := x.clip, unfinished := !x.ended,
    peakDb := if x.ended then x.peakDb else none }

/-- The EVENT record of a close, with its location and its stamps (R68, R69, R73). -/
def eventRecord (e : Event) (reason : CloseReason) (s : State) : EventRecord :=
  { number := e.number
    cls := eventClass e
    reason := reason
    first := e.first
    closeTick := passTick s
    window := e.window
    span := e.span
    memberCount := e.members.length
    clipped := clippedCount e
    unfinished := (e.members.filter fun x => !x.ended).length
    phase := s.controller.phase
    pressure := s.monitor.pressure
    location := if e.guarded then none else locate s.active e.members
    members := e.members.map memberRecord }

/-- The report of a close (R71). -/
def reportOf (e : Event) : CloseReport :=
  { number := e.number, cls := eventClass e, first := e.first, clipped := clippedCount e }

/-- The slot is freed (R66 step 6). -/
def freeTheSlot (i : Fin 8) (s : State) : State := s.onAssembler fun a => { a with slots := a.slots.set i none }

/-- The close sequence of the event `e` in slot `i` (R66): classified, located, counted and stamped in its record, which is
offered; reported; the slot freed. -/
def closeEvent (i : Fin 8) (e : Event) (reason : CloseReason) (s : State) : State :=
  freeTheSlot i (closeReport (reportOf e) (offerRecord (.event (eventRecord e reason s)) s))

/-- The examination of slot `i` against the pass's S (R64). -/
def examineSlot (t : Tick) (s : State) (i : Fin 8) : State :=
  match s.assembler.slots[i] with
  | none => s
  | some e =>
    match closeReasonAt e t with
    | none => s
    | some reason => closeEvent i e reason s

/-- The assembler's stage of a pass (R61, R64, R65): entries below S are taken, the slots are examined in order, and the
end notices still on their way are taken (R71). -/
def assemblerStage (s : State) : State :=
  let t := passTick s
  deliverNotices (allSlots.foldl (examineSlot t) (takeEntries (settledEntries t s) s))

/-- One slot at the flush: its event closes with reason FLUSH, without the tests of R64 (R77). -/
def flushSlot (s : State) (i : Fin 8) : State :=
  match s.assembler.slots[i] with
  | none => s
  | some e => closeEvent i e .flush s

/-- The flush of FINISH (R77): every entry is taken regardless of S, then every open event closes in slot order. -/
def flush (s : State) : State := allSlots.foldl flushSlot (takeEntries s.assembler.arrivals s)

end Sys2Proof.Machine
end

