-- ==== Sys2Proof/Machine/Operands.lean ====
section
/-! DEFINITION. Every operand form: what the blocks read out of the payload of an inlet frame (R171, R172), the length and
field errors that make FRAME-FORM (R2, R110, R153, R172), and the ranges that make REFUSED-RANGE (R127 to R131, R156). -/
namespace Sys2Proof.Machine

/-! ## Enumerations as received (R171): a code outside the list names nothing -/

def boolOf (n : Nat) : Option Bool := match n with | 0 => some false | 1 => some true | _ => none

def modeOf (n : Nat) : Option Mode := match n with | 0 => some .off | 1 => some .listen | 2 => some .guard | _ => none

def cutTimingOf (n : Nat) : Option CutTiming := match n with | 0 => some .immediate | 1 => some .atSettle | _ => none

def markSourceOf (n : Nat) : Option MarkSource :=
  match n with
  | 0 => some .none
  | 1 => some .pressureAtLeast
  | 2 => some .pressureAtMost
  | 3 => some .eventsInPhase
  | 4 => some .holdQuiet
  | 5 => some .rupture
  | 6 => some .denseEntry
  | _ => none

def tableOf (n : Nat) : Option TableName :=
  match n with | 0 => some .channel | 1 => some .pair | 2 => some .decibel | 3 => some .test | _ => none

def swapNameOf (n : Nat) : Option SwapName := if n = 4 then some .all else (tableOf n).map .one

def copyOf (n : Nat) : Option CopyName := match n with | 0 => some .staged | 1 => some .active | _ => none

def markOf (n : Nat) : Option MarkName := match n with | 0 => some .zero | 1 => some .one | _ => none

/-- The order that the order byte and the argument byte of an ORDER frame name; none when the order, the table of a SWAP
or the mark of an AWAIT is outside its codes. Other orders ignore the argument (R156, R172). -/
def orderOf (code arg : Nat) : Option Order :=
  match code with
  | 1 => some .arm
  | 2 => some .ramp
  | 3 => some .hold
  | 4 => some .unload
  | 5 => some .mute
  | 6 => some .unmute
  | 7 => (swapNameOf arg).map .swap
  | 8 => (markOf arg).map .await
  | 9 => some .finish
  | _ => none

/-- The value when it lies in `lo..hi`. -/
def inRange (lo hi n : Nat) : Option Nat := if lo ≤ n ∧ n ≤ hi then some n else none

/-- A channel number when it lies in 0..31. -/
def chanOf (n : Nat) : Option Chan := if h : n < 32 then some ⟨n, h⟩ else none

/-- The gain offset when it lies in −20..+40 (R127). -/
def gainOf (g : Int) : Option Int := if -20 ≤ g ∧ g ≤ 40 then some g else none

/-! ## SAMPLE, SETTLE and PROCESS payloads (R172) -/

/-- What a SAMPLE frame that passes the inlet's checks carries. -/
structure SampleFrame where
  card : Card
  start : Tick
  /-- The sample sets, one per tick, each with its eight lanes in order. -/
  sets : List (List Int)
  deriving DecidableEq, Repr

/-- Lane `l` of sample set `k`: at offset 8 + 16k + 2l. -/
def sampleAt (p : List Byte) (k l : Nat) : Int := signed16 (fieldAt p (8 + 16 * k + 2 * l) 2)

/-- A SAMPLE payload; none for the FRAME-FORM errors of R2: a length that does not match, a card above 3, a count outside
1..32, start plus count beyond the last tick. -/
def sampleOf (p : List Byte) : Option SampleFrame :=
  let card := fieldAt p 0 1
  let start := fieldAt p 1 6
  let n := fieldAt p 7 1
  if h : card < 4 then
    if 1 ≤ n ∧ n ≤ 32 ∧ p.length = 8 + 16 * n ∧ start + n ≤ Config.maxTick then
      some { card := ⟨card, h⟩, start, sets := (List.range n).map fun k => (List.range 8).map fun l => sampleAt p k l }
    else none
  else none

/-- A SETTLE payload: its tick B. -/
def settleOf (p : List Byte) : Option Tick := if p.length = 6 then some (beNat p) else none

/-- What a PROCESS frame carries; its tick plays no part (chapter 7). -/
structure ProcessFrame where
  valid : Bool
  pressure : Nat
  deriving DecidableEq, Repr

/-- A PROCESS payload: bit 0 of the flags is the valid flag, the other bits are ignored. -/
def processOf (p : List Byte) : Option ProcessFrame :=
  if p.length = 10 then some { valid := (byteAt p 6).getLsbD 0, pressure := fieldAt p 7 3 } else none

/-! ## Management payloads (R172) -/

/-- Bytes of one entry of a table. -/
def entrySize : TableName → Nat
  | .channel => 17
  | .pair => 7
  | .decibel => 2
  | .test => 24

/-- The payload length fits the kind (R153, R172). The WRITE-TABLE length is checked against the table byte and the count
byte as received; when the table byte names no table, any length of at least 4 will do. -/
def mgmtLengthOk (k : MgmtKind) (p : List Byte) : Bool :=
  match k with
  | .identify | .readState | .dropOrders | .resetLink => p.length == 1
  | .setMark => p.length == 2
  | .order | .clearConditions => p.length == 3
  | .readTable => p.length == 5
  | .writeTable =>
    decide (4 ≤ p.length) &&
      match tableOf (fieldAt p 1 1) with
      | none => true
      | some t => p.length == 4 + fieldAt p 3 1 * entrySize t

/-- A management frame whose length fits: its kind, its tag, and the payload after the tag. -/
def mgmtOf (k : MgmtKind) (p : List Byte) : Option MgmtFrame :=
  if mgmtLengthOk k p then some { kind := k, tag := byteAt p 0, body := p.drop 1 } else none

/-! ## Table entries as received (R127 to R131, R172): none when a field is out of range -/

def channelEntryOf (e : List Byte) : Option ChannelEntry := do
  let mode ← modeOf (fieldAt e 0 1)
  let threshold ← inRange 1 32767 (fieldAt e 1 2)
  let gain ← gainOf (signed8 (fieldAt e 3 1))
  let delay ← inRange 0 4095 (fieldAt e 4 2)
  let quiet ← inRange 1 65535 (fieldAt e 6 2)
  let peakWindow ← inRange 1 65535 (fieldAt e 8 2)
  let rearm ← inRange 0 65535 (fieldAt e 10 2)
  let limit ← inRange 1 1048575 (fieldAt e 12 3)
  let shift ← inRange 0 15 (fieldAt e 15 1)
  let forward ← boolOf (fieldAt e 16 1)
  return { mode, threshold, gain, delay, quiet, peakWindow, rearm, limit, shift, forward }

def pairEntryOf (e : List Byte) : Option PairEntry := do
  let valid ← boolOf (fieldAt e 0 1)
  let a ← chanOf (fieldAt e 1 1)
  let b ← chanOf (fieldAt e 2 1)
  let spacing ← inRange 1 65535 (fieldAt e 3 2)
  let velocity ← inRange 1 65535 (fieldAt e 5 2)
  if valid && a == b then none else return { valid, a, b, spacing, velocity }

def levelOf (e : List Byte) : Option Nat := inRange 0 32768 (fieldAt e 0 2)

def markSpecOf (source parameter : Nat) : Option MarkSpec := do
  let source ← markSourceOf source
  let parameter ← inRange 0 16777215 parameter
  return { source, parameter }

def testTableOf (e : List Byte) : Option TestTable := do
  let window ← inRange 1 65535 (fieldAt e 0 2)
  let span ← inRange 0 1048575 (fieldAt e 2 3)
  let quorum ← inRange 2 8 (fieldAt e 5 1)
  let high ← inRange 2 496 (fieldAt e 6 2)
  let low ← inRange 0 495 (fieldAt e 8 2)
  let cutTiming ← cutTimingOf (fieldAt e 10 1)
  let holdLimit ← inRange 0 65535 (fieldAt e 11 2)
  let onsetCount ← inRange 1 255 (fieldAt e 13 1)
  let mark0 ← markSpecOf (fieldAt e 16 1) (fieldAt e 17 3)
  let mark1 ← markSpecOf (fieldAt e 20 1) (fieldAt e 21 3)
  return { window, span, quorum, high, low, cutTiming, holdLimit, onsetCount,
           reportMask := condSetOfBits (fieldAt e 14 2), mark0, mark1 }

/-- The first `count` pieces of `size` bytes. -/
def pieces (size : Nat) : (count : Nat) → List Byte → List (List Byte)
  | 0, _ => []
  | n + 1, bs => bs.take size :: pieces size n (bs.drop size)

/-- Every value of a list that is present in every place, or none. -/
def allSome {α : Type} : List (Option α) → Option (List α)
  | [] => some []
  | none :: _ => none
  | some a :: rest => (allSome rest).map (a :: ·)

/-- The `count` entries of a table as received; none when any field of any entry is out of range (R131). -/
def entriesOf (t : TableName) (count : Nat) (bs : List Byte) : Option TableEntries :=
  let es := pieces (entrySize t) count bs
  match t with
  | .channel => (allSome (es.map channelEntryOf)).map .channel
  | .pair => (allSome (es.map pairEntryOf)).map .pair
  | .decibel => (allSome (es.map levelOf)).map .decibel
  | .test => (allSome (es.map testTableOf)).bind fun l => l.head?.map .test

/-- The extent check of R131, which READ-TABLE shares (R132): limits on first index, count, and their sum. -/
def extentOk (t : TableName) (first count : Nat) : Bool :=
  match t with
  | .channel => first ≤ 31 && 1 ≤ count && count ≤ 4 && first + count ≤ 32
  | .pair => first ≤ 15 && 1 ≤ count && count ≤ 4 && first + count ≤ 16
  | .decibel => first ≤ 99 && 1 ≤ count && count ≤ 100 && first + count ≤ 100
  | .test => first == 0 && count == 1

end Sys2Proof.Machine
end

