-- ==== Sys2Proof/Machine/Tables.lean ====
section
/-! DEFINITION. The table store (chapter 8): writes of the staged copy (R131), reads of either copy (R132), and SWAP (R133
to R138). -/
namespace Sys2Proof.Machine

/-! ## Writing and reading (R131, R132) -/

/-- A vector with the values of a list written at `first`, `first + 1`, …; values beyond the end are not written. -/
def writeVec {α : Type} {n : Nat} (v : Vector α n) (first : Nat) : List α → Vector α n
  | [] => v
  | x :: xs => writeVec (v.setIfInBounds first x) (first + 1) xs

/-- The values at `first` to `first + count − 1`. -/
def readVec {α : Type} {n : Nat} (v : Vector α n) (first count : Nat) : List α := (v.toList.drop first).take count

/-- Entries written whole at `first` (R131). -/
def writeEntries (first : Nat) (es : TableEntries) (t : Tables) : Tables :=
  match es with
  | .channel es => { t with channels := writeVec t.channels first es }
  | .pair es => { t with pairs := writeVec t.pairs first es }
  | .decibel ls => { t with levels := writeVec t.levels first ls }
  | .test x => { t with test := x }

/-- The named entries of a copy, in index order (R132). -/
def readEntries (name : TableName) (first count : Nat) (t : Tables) : TableEntries :=
  match name with
  | .channel => .channel (readVec t.channels first count)
  | .pair => .pair (readVec t.pairs first count)
  | .decibel => .decibel (readVec t.levels first count)
  | .test => .test t.test

/-- The entries that a WRITE-TABLE body asks to write, with their first index; none when the extent or any field of any
entry fails its check (R131). The body is table, first index, count, entries (R172). -/
def writeOf (body : List Byte) : Option (Nat × TableEntries) := do
  let name ← tableOf (fieldAt body 0 1)
  let first := fieldAt body 1 1
  let count := fieldAt body 2 1
  if extentOk name first count then
    let es ← entriesOf name count (body.drop 3)
    return (first, es)
  else none

/-- What a READ-TABLE body asks for; none when a name or the extent fails its check (R132). The body is table, copy, first
index, count (R172). -/
def readOf (body : List Byte) : Option (TableName × CopyName × Nat × Nat) := do
  let name ← tableOf (fieldAt body 0 1)
  let copy ← copyOf (fieldAt body 1 1)
  let first := fieldAt body 2 1
  let count := fieldAt body 3 1
  if extentOk name first count then return (name, copy, first, count) else none

/-- The named copy of the tables (R126). -/
def copyTables (copy : CopyName) (s : State) : Tables :=
  match copy with
  | .staged => s.staged
  | .active => s.active

/-! ## SWAP (R133 to R138) -/

/-- The entry moves between LISTEN and GUARD, and is copied with mode OFF (R134). -/
def modeSkips (staged active : ChannelEntry) : Bool :=
  modeListens staged.mode && modeListens active.mode && staged.mode != active.mode

/-- An entry as the swap copies it (R134). -/
def copyEntry (staged active : ChannelEntry) : ChannelEntry :=
  if modeSkips staged active then { staged with mode := .off } else staged

/-- The active channel table after the swap (R134). -/
def copiedChannels (staged active : Vector ChannelEntry 32) : Vector ChannelEntry 32 :=
  ⟨(List.zipWith copyEntry staged.toList active.toList).toArray, by simp⟩

/-- The lowest channel copied with mode OFF, if any (R134). -/
def firstSkipped (staged active : Vector ChannelEntry 32) : Option Chan :=
  allChans.find? fun c => modeSkips staged[c] active[c]

/-- The levels never decrease (R137). -/
def nonDecreasing : List Nat → Bool
  | a :: b :: rest => decide (a ≤ b) && nonDecreasing (b :: rest)
  | [_] => true
  | [] => true

/-- Validation refuses the staged table (R137, R138); the channel and pair tables are never refused (R134, R136). -/
def swapRefuses (name : TableName) (t : Tables) : Bool :=
  match name with
  | .channel | .pair => false
  | .decibel => !nonDecreasing t.levels.toList
  | .test => !decide (t.test.low < t.test.high)

/-- The code of a table as a selector (R162, R176). -/
def tableSelector : TableName → Nat
  | .channel => 0 | .pair => 1 | .decibel => 2 | .test => 3

/-- One table handled: validated, copied or refused, its fault raised (R133 to R138). -/
def swapTable (name : TableName) (s : State) : State :=
  if swapRefuses name s.staged then reportFault .tableInvalid (some (tableSelector name)) s
  else
    match name with
    | .channel =>
      let skipped := firstSkipped s.staged.channels s.active.channels
      let s1 := s.onActive fun t => { t with channels := copiedChannels s.staged.channels t.channels }
      match skipped with
      | some c => reportFault .modeSkip (some c.val) s1
      | none => s1
    | .pair => s.onActive fun t => { t with pairs := s.staged.pairs }
    | .decibel => s.onActive fun t => { t with levels := s.staged.levels }
    | .test => s.onActive fun t => { t with test := s.staged.test }

/-- The tables a SWAP names, in the order they are handled (R133). -/
def swapTables : SwapName → List TableName
  | .one t => [t]
  | .all => [.channel, .pair, .decibel, .test]

/-- The named tables handled one after the other; once a report has halted the part, no more are (R133). -/
def handleTables : List TableName → State → State
  | [], s => s
  | t :: ts, s => if s.faults.halted then s else handleTables ts (swapTable t s)

/-- The directive of one channel after the whole order has been handled, by its active modes before and after (R20, R35,
R135). -/
def swapDirective (before : Vector ChannelEntry 32) (s : State) (c : Chan) : State :=
  match modeListens before[c].mode, modeListens s.active.channels[c].mode with
  | true, false => stopUnit s.controller.phase false c s
  | false, true => if listeningPhase s.controller.phase then s.onUnit c readyUnit else s
  | true, true => s
  | false, false => s

/-- The directives that a SWAP calls for, channel 0 first (R135). -/
def swapDirectives (before : Vector ChannelEntry 32) (s : State) : State := allChans.foldl (swapDirective before) s

/-- The answer to a SWAP: CANCELLED when a report halted the part, REFUSED-INVALID when a named table was refused, DONE
otherwise (R101, R133). -/
def swapCode (halted refused : Bool) : AnswerCode :=
  if halted then .cancelled else if refused then .refusedInvalid else .done

/-- A SWAP order carried out and answered (R101, R133). The end sequences of the hits it truncates run with their
directives, after the order has been handled (R35, R135), and the answer is built after them (DESIGN CHOICE, log
entry 25). -/
def swapOrder (name : SwapName) (tag : Byte) (s : State) : State :=
  let refused := (swapTables name).any fun t => swapRefuses t s.staged
  let s1 := handleTables (swapTables name) s
  let s2 := if s1.faults.halted then s1 else swapDirectives s.active.channels s1
  answer (orderAnswer tag (swapCode s1.faults.halted refused)) s2

end Sys2Proof.Machine
end

