-- ==== Sys2Proof/Machine/Orders.lean ====
section
/-! DEFINITION. The phase controller's orders (chapter 6): their decision on arrival (R92, R93, R105), the controller's stage
of a settle pass (R95, R96), and what each taken order does (R98 to R104). -/
namespace Sys2Proof.Machine

/-! ## ARM (R105) -/

/-- Step 1 of ARM in the phase controller, with the two items of R90's ARM column that IDLE has already cleared (R90,
R105). The order queue is empty in IDLE (R94). -/
def clearTest (c : Controller) : Controller :=
  { c with mark0 := false, mark1 := false, ruptured := false, counters := .zero, phaseEvents := 0, ramp := none,
           hold := none, lastRamp := 0, unloadNoted := false, mutedFrom := none, stalled := false }

/-- ARM carried out in IDLE and answered (R105). Step 2: tracker (R16) and assembler (R76); step 3: Pmax (R111); step 4:
the phase and its record, S being absent; step 5: the contexts (R17). -/
def armOrder (tag : Byte) (s : State) : State :=
  let s1 := s.onController clearTest
  let s2 := s1.onTracker fun _ => .initial
  let s3 := s2.onAssembler fun _ => .initial
  let s4 := s3.onMonitor fun m => { m with pmax := m.pressure.getD 0 }
  let s5 := s4.onController fun c => { c with phase := .armed }
  let s6 := offerRecord (.phase (phaseRecord .idle .armed none s5)) s5
  answer (orderAnswer tag .done) (armUnits s6)

/-! ## Orders on arrival (R92, R93) -/

/-- An order that reaches the phase controller in IDLE (R92). -/
def orderInIdle (o : Order) (tag : Byte) (s : State) : State :=
  match o with
  | .arm => armOrder tag s
  | .swap name => swapOrder name tag s
  | .ramp | .hold | .unload | .mute | .unmute | .await _ | .finish => answer (orderAnswer tag .refusedPhase) s

/-- An order that reaches the phase controller in any other phase (R93). -/
def orderInTest (o : Order) (tag : Byte) (s : State) : State :=
  if o = .arm then answer (orderAnswer tag .refusedPhase) s
  else if Config.orderCapacity ≤ s.controller.queue.length then answer (orderAnswer tag .refusedFull) s
  else s.onController fun c => { c with queue := c.queue ++ [{ order := o, tag }] }

/-- The arrival of an order decided (R92, R93). -/
def orderArrives (o : Order) (tag : Byte) (s : State) : State :=
  if s.controller.phase = .idle then orderInIdle o tag s else orderInTest o tag s

/-! ## Taken orders (R98 to R104) -/

/-- RAMP taken (R98, R118). -/
def rampTaken (tag : Byte) (s : State) : State := answer (orderAnswer tag .done) (beginRamp (changePhase .ramp s))

/-- HOLD taken (R98, R115). -/
def holdTaken (tag : Byte) (s : State) : State := answer (orderAnswer tag .done) (beginHold (changePhase .hold s))

/-- UNLOAD taken: the unload is noted for the next RAMP (R98, R118). -/
def unloadTaken (tag : Byte) (s : State) : State :=
  answer (orderAnswer tag .done) ((changePhase .unload s).onController fun c => { c with unloadNoted := true })

/-- MUTE taken (R99): every unit is stopped after the PHASE record, stamped with the phase left. R34 and R99 let the end
notices of the truncated hits reach the assembler in this pass or the next; the model applies each at once (DESIGN CHOICE,
log entry 22). R99 builds DONE when the directive has reached all the units and does not say whether the HIT records of
the truncated hits are offered by then; the model offers them first (DESIGN CHOICE, log entry 25). -/
def muteTaken (tag : Byte) (s : State) : State :=
  let left := s.controller.phase
  let s1 := s.onController fun c => { c with mutedFrom := some left }
  answer (orderAnswer tag .done) (stopAll left false (changePhase .muted s1))

/-- UNMUTE taken (R100): back to the muted-from phase, a new hold if that is HOLD, every listening context READY. A
MUTED phase always has a muted-from phase (R91). -/
def unmuteTaken (tag : Byte) (s : State) : State :=
  let back := s.controller.mutedFrom.getD .armed
  let s1 := (changePhase back s).onController fun c => { c with mutedFrom := none }
  let s2 := if back = .hold then beginHold s1 else s1
  answer (orderAnswer tag .done) (readyListening s2)

/-- The SUMMARY record (R104). -/
def summaryRecord (before : Phase) (s : State) : SummaryRecord :=
  { counters := s.controller.counters, pmax := s.monitor.pmax, rupture := s.controller.ruptured, before }

/-- Step 3 of FINISH: a ramp in progress, running or paused, ends, and a hold in progress ends (R103). -/
def endBookkeeping (s : State) : State := (endRamp s).onController fun c => { c with hold := none }

/-- FINISH taken (R103), step by step. -/
def finishTaken (tag : Byte) (s : State) : State :=
  let before := s.controller.phase
  let s1 := stopAll before false s
  let s2 := flush s1
  let part := leavingHold .idle s2
  let s3 := endBookkeeping s2
  let s4 := offerRecord (.summary (summaryRecord before s3)) s3
  let s5 := cancelOrders s4
  let old := s5.controller.phase
  let s6 := s5.onController fun c => { c with phase := .idle, mutedFrom := none, phaseEvents := 0 }
  let s7 := offerRecord (.phase (phaseRecord old .idle part s6)) s6
  let s8 := s7.onTracker fun t => { Tracker.initial with passInProgress := t.passInProgress, waiting := t.waiting }
  answer (orderAnswer tag .done) s8

/-! ## The controller's stage (R95, R96, R102, R106) -/

/-- The head leaves the queue; the stalled flag becomes no (R94). -/
def popHead (s : State) : State := s.onController fun c => { c with queue := c.queue.tail, stalled := false }

/-- A mark's flag, and the flag cleared (R102). -/
def markSet (m : MarkName) (c : Controller) : Bool :=
  match m with
  | .zero => c.mark0
  | .one => c.mark1

def clearMark (m : MarkName) (c : Controller) : Controller :=
  match m with
  | .zero => { c with mark0 := false }
  | .one => { c with mark1 := false }

/-- A mark set by SET-MARK (R107). -/
def assignMark (m : MarkName) (c : Controller) : Controller :=
  match m with
  | .zero => { c with mark0 := true }
  | .one => { c with mark1 := true }

/-- A legal AWAIT at the head: it consumes its mark and is answered DONE, or it stays, stalled (R102). -/
def awaitExamined (m : MarkName) (tag : Byte) (s : State) : State :=
  if markSet m s.controller then answer (orderAnswer tag .done) (popHead (s.onController (clearMark m)))
  else s.onController fun c => { c with stalled := true }

/-- A legal head dealt with (R95 steps 3 and 4). ARM is never queued (R93) and never legal (R96). -/
def takeOrder (q : QueuedOrder) (s : State) : State :=
  match q.order with
  | .arm => s
  | .ramp => rampTaken q.tag (popHead s)
  | .hold => holdTaken q.tag (popHead s)
  | .unload => unloadTaken q.tag (popHead s)
  | .mute => muteTaken q.tag (popHead s)
  | .unmute => unmuteTaken q.tag (popHead s)
  | .swap name => swapOrder name q.tag (popHead s)
  | .await m => awaitExamined m q.tag s
  | .finish => finishTaken q.tag (popHead s)

/-- The head examined against the phase of this moment (R95, R96). -/
def examineHead (s : State) : State :=
  match s.controller.queue with
  | [] => s
  | q :: _ =>
    if orderLegal s.controller.phase q.order then takeOrder q s
    else answer (orderAnswer q.tag .refusedPhase) (popHead s)

/-- HOLD-QUIET, evaluated first while the phase is HOLD (R95, R106). -/
def holdQuiet (s : State) : State :=
  match s.controller.phase, s.controller.hold with
  | .hold, some h => setMarks (quietHolds (passTick s) h.quietRef) s
  | _, _ => s

/-- The phase controller's stage of a pass (R95). -/
def controllerStage (s : State) : State := examineHead (holdQuiet s)

end Sys2Proof.Machine
end

