-- ==== Sys2Proof/Machine/Tracker.lean ====
section
/-! DEFINITION. The tick tracker (chapter 1): acceptance of SAMPLE frames (R5 to R9) and of SETTLE frames (R5, R10 to R14),
and the settle pass (R13). -/
namespace Sys2Proof.Machine

/-! ## SAMPLE frames (R5 to R9) -/

/-- What the tracker does with a SAMPLE frame outside IDLE (R6, R7, R8). -/
inductive SampleVerdict where
  | overlap | taken | gap
  deriving DecidableEq, Repr

/-- The decision of R6 and R7 on a frame of `n` ticks from `start`: R6 first, then the table of R7. -/
def sampleVerdict (last expected : Option Tick) (start n : Nat) : SampleVerdict :=
  if (match last with | some b => decide (start + n ≤ b) | none => false) then .overlap
  else
    match expected, last with
    | none, none => .taken
    | none, some b => if b ≤ start then .taken else .overlap
    | some e, _ => if start = e then .taken else if start < e then .overlap else .gap

/-- The card's expected tick becomes `t` and its lag flag is cleared (R7). -/
def advanceCard (k : Card) (t : Tick) (s : State) : State :=
  s.onTracker fun tr => { tr with expected := tr.expected.set k (some t), lag := tr.lag.set k false }

/-- The frame taken: the tracker moves on, and the samples go to the eight units (R7, R9). -/
def sampleTaken (f : SampleFrame) (s : State) : State :=
  handSets f.card f.start f.sets (advanceCard f.card (f.start + f.sets.length) s)

/-- The frame taken as a gap, in R8's order: truncations, tracker, TICK-GAP, and, unless that halted the part, the
samples. -/
def sampleGap (f : SampleFrame) (s : State) : State :=
  let s1 := truncateCard f.card s
  let s2 := advanceCard f.card (f.start + f.sets.length) s1
  let s3 := reportFault .tickGap (some f.card.val) s2
  if s3.faults.halted then s3 else handSets f.card f.start f.sets s3

/-- A SAMPLE frame reaches the tracker (R5 to R8). Before a frame is taken, the card's units take what is left of the
frames before it (log entry 4). -/
def trackSample (f : SampleFrame) (s : State) : State :=
  if s.controller.phase = .idle then s
  else
    match sampleVerdict s.tracker.last s.tracker.expected[f.card] f.start f.sets.length with
    | .overlap => reportFault .tickOverlap (some f.card.val) s
    | .taken => sampleTaken f (drainCard f.card s)
    | .gap => sampleGap f (drainCard f.card s)

/-! ## SETTLE frames (R10 to R14) -/

/-- The card's expected tick is present and below B (R11). -/
def isLagging (k : Card) (b : Tick) (t : Tracker) : Bool :=
  match t.expected[k] with
  | some e => decide (e < b)
  | none => false

/-- A card in the lag check, unless an earlier report has halted the part (R11). -/
def lagCard (b : Tick) (s : State) (k : Card) : State :=
  if s.faults.halted then s
  else if isLagging k b s.tracker then
    reportFault .laneLag (some k.val) ((truncateCard k s).onTracker fun t =>
      { t with expected := t.expected.set k (some b), lag := t.lag.set k true })
  else s

/-- The lag check, cards 0 to 3 (R11). -/
def lagCheck (b : Tick) (s : State) : State := allCards.foldl (lagCard b) s

/-- The largest delay among the entries in mode LISTEN or GUARD, 0 if there is none (R12). -/
def dmaxOf (channels : Vector ChannelEntry 32) : Nat :=
  channels.toList.foldl (fun d e => if modeListens e.mode then max d e.delay else d) 0

/-- The settled tick from B and dmax: never lowered, and 0 for a negative difference at first (R12). -/
def nextSettled (settled : Option Tick) (b dmax : Nat) : Tick :=
  match settled with
  | none => b - dmax
  | some t => max t (b - dmax)

/-- S is computed and the pass begins (R12, R13). -/
def beginPass (b : Tick) (s : State) : State :=
  s.onTracker fun t =>
    { t with settled := some (nextSettled t.settled b (dmaxOf s.active.channels)), passInProgress := true }

/-- A SETTLE frame taken outside IDLE: the units hand over what earlier frames produced (R12, R13), B becomes the frame's
tick, the taking is reported to the outlet (R150), then the lag check, the settled tick and the start of the pass; a report
that halts the part ends it there (R10, R11). -/
def settleAccepted (b : Tick) (s : State) : State :=
  let s1 := drainAll s
  let s2 := settleTaken (s1.onTracker fun t => { t with last := some b })
  let s3 := lagCheck b s2
  if s3.faults.halted then s3 else beginPass b s3

/-- The frame's tick is not above B (R10). -/
def settleDisordered (b : Tick) (last : Option Tick) : Bool :=
  match last with
  | some l => decide (b ≤ l)
  | none => false

/-- A SETTLE frame reaches the tracker (R5, R10, R14). -/
def trackSettle (b : Tick) (s : State) : State :=
  if s.controller.phase = .idle then settleTaken s
  else if s.tracker.passInProgress then
    match s.tracker.waiting with
    | none => s.onTracker fun t => { t with waiting := some b }
    | some _ => reportFault .settleDisorder none s
  else if settleDisordered b s.tracker.last then reportFault .settleDisorder none s
  else settleAccepted b s

/-! ## The settle pass (R13, R14, R15) -/

/-- The pass ends: pass in progress becomes no, and a waiting SETTLE frame is handled as if it had just arrived (R14). A
pass that HALTED ended has nothing left to do (R15). -/
def endPass (s : State) : State :=
  if s.faults.halted then s
  else
    let s1 := s.onTracker fun t => { t with passInProgress := false, waiting := none }
    match s.tracker.waiting with
    | none => s1
    | some b => trackSettle b s1

/-- The settle pass: the assembler's stage, the phase controller's stage, the end (R13). With no pass in progress there is
nothing to run (log entry 9). -/
def runPass (s : State) : State :=
  if s.tracker.passInProgress then endPass (controllerStage (assemblerStage s)) else s

end Sys2Proof.Machine
end

