-- ==== Sys2Proof/Machine/Inlet.lean ====
section
/-! DEFINITION. The inlet (R2, R3, R110, R153, R161, R170) and the meanings of the frames that are no management frames:
SAMPLE, SETTLE, PROCESS (R112, R113) and frames of an unknown kind. -/
namespace Sys2Proof.Machine

/-- A frame of kind `kind` at the inlet (R2, R110, R153, R170): in HALTED it is discarded before any check; a wrong check
is FRAME-CHECK; then a payload that `parse` does not accept is FRAME-FORM; the selector of both is the kind byte as it
arrived (R162). A frame that passes is handed on. -/
def receive {α : Type} (kind : Byte) (f : Frame) (parse : List Byte → Option α) (handOn : α → State → State)
    (s : State) : State :=
  if s.faults.halted then s
  else if checkOk kind f then
    match parse f.payload with
    | some a => handOn a s
    | none => reportFault .frameForm (some kind.toNat) s
  else reportFault .frameCheck (some kind.toNat) s

/-- At least one of the eight active entries of the card forwards (R3), whatever its mode: R135's first row says of a
channel taken to OFF that its card's frames are forwarded only if another entry forwards (DESIGN CHOICE, log entry 24). -/
def cardForwards (k : Card) (channels : Vector ChannelEntry 32) : Bool := (cardChans k).any fun c => channels[c].forward

/-- A SAMPLE frame that passed the checks is offered to pass-through when its card forwards (R3). -/
def offerSample (f : Frame) (k : Card) (s : State) : State :=
  if cardForwards k s.active.channels then offerPass { kind := kindSample, frame := f } s else s

/-- A SAMPLE frame at the inlet: checks, offer, tracker (R2). -/
def sampleArrives (f : Frame) (s : State) : State :=
  receive kindSample f sampleOf (fun x s => trackSample x (offerSample f x.card s)) s

/-- A SETTLE frame at the inlet: checks, offer, tracker (R2, R3). -/
def settleArrives (f : Frame) (s : State) : State :=
  receive kindSettle f settleOf (fun b s => trackSettle b (offerPass { kind := kindSettle, frame := f } s)) s

/-- A valid PROCESS frame (R112): current pressure, stale flag, Pmax outside IDLE, pressure marks. -/
def processValid (p : Nat) (s : State) : State :=
  setMarks (pressureHolds p) (s.onMonitor fun m =>
    { pressure := some p, stale := false, pmax := if s.controller.phase = .idle then m.pmax else max m.pmax p })

/-- An invalid PROCESS frame (R113): the stale flag and PRESSURE-STALE. -/
def processInvalid (s : State) : State := raise .pressureStale (s.onMonitor fun m => { m with stale := true })

/-- A PROCESS frame taken by the pressure monitor (R112, R113). -/
def takeProcess (x : ProcessFrame) (s : State) : State := if x.valid then processValid x.pressure s else processInvalid s

/-- A PROCESS frame at the inlet (R110). -/
def processArrives (f : Frame) (s : State) : State := receive kindProcess f processOf takeProcess s

/-- A frame of a kind the inlet does not list: FRAME-CHECK or FRAME-FORM, or discarded in HALTED (R2, R161, R170). -/
def unknownArrives (kind : Byte) (f : Frame) (s : State) : State :=
  receive kind f (fun _ => (none : Option Unit)) (fun _ s => s) s

/-- SAMPLE (R7). -/
def execSample (f : Frame) (s : State) : Host.Outcome State Fault Refusal := .next (sampleArrives f s)

/-- SETTLE (R10). -/
def execSettle (f : Frame) (s : State) : Host.Outcome State Fault Refusal := .next (settleArrives f s)

/-- PROCESS (R112). -/
def execProcess (f : Frame) (s : State) : Host.Outcome State Fault Refusal := .next (processArrives f s)

/-- UNKNOWN_KIND (R170). -/
def execUnknownKind (kind : Byte) (f : Frame) (s : State) : Host.Outcome State Fault Refusal :=
  .next (unknownArrives kind f s)

end Sys2Proof.Machine
end

