-- ==== Sys2Proof/Machine/LinkEvents.lean ====
section
/-! DEFINITION. The meanings of the commands that are no frame's arrival: the settle pass (R13), the three samples that are
steps of their own (R29, R30, R31), and the outlet link's two events (R141). -/
namespace Sys2Proof.Machine

/-- The ready line takes a level; the arbiter chooses if it may (R141). -/
def setReady (level : Bool) (s : State) : State := arbitrate (s.withReady level)

/-- The last byte of the frame in transmission has gone; the arbiter chooses again if it may (R141). -/
def transmissionDone (s : State) : State := arbitrate (s.onOutlet fun o => { o with sending := none })

/-- SETTLE_PASS (R13). -/
def execSettlePass (s : State) : Host.Outcome State Fault Refusal := .next (runPass s)

/-- NORMAL_END (R29). -/
def execNormalEnd (c : Chan) (s : State) : Host.Outcome State Fault Refusal := .next (unitStep .normalEnd c s)

/-- LONG_END (R30). -/
def execLongEnd (c : Chan) (s : State) : Host.Outcome State Fault Refusal := .next (unitStep .longEnd c s)

/-- REARM_END (R31). -/
def execRearmEnd (c : Chan) (s : State) : Host.Outcome State Fault Refusal := .next (unitStep .rearmEnd c s)

/-- READY_LINE (R141). -/
def execReadyLine (level : Bool) (s : State) : Host.Outcome State Fault Refusal := .next (setReady level s)

/-- TRANSMISSION_COMPLETE (R141). -/
def execTransmissionComplete (s : State) : Host.Outcome State Fault Refusal := .next (transmissionDone s)

end Sys2Proof.Machine
end

