-- ==== Sys2Proof/Machine/Management.lean ====
section
/-! DEFINITION. The management responder (chapter 10): acceptance and reservation (R143, R153), the carrying out of the nine
kinds (R154 to R160), and the meanings of the management commands other than the orders. -/
namespace Sys2Proof.Machine

/-- The answer to a management frame (R154). -/
def mgmtAnswer (m : MgmtFrame) (code : AnswerCode) (data : AnswerData) : Answer := { tag := m.tag, kind := m.kind, code, data }

/-- WRITE-TABLE: the staged copy written whole, or REFUSED-RANGE (R131, R156). -/
def carryWriteTable (m : MgmtFrame) (s : State) : State :=
  match writeOf m.body with
  | some (first, es) => answer (mgmtAnswer m .done .none) (s.onStaged (writeEntries first es))
  | none => answer (mgmtAnswer m .refusedRange .none) s

/-- READ-TABLE: the named entries of the named copy, or REFUSED-RANGE (R132, R156). -/
def carryReadTable (m : MgmtFrame) (s : State) : State :=
  match readOf m.body with
  | some (name, copy, first, count) =>
    answer (mgmtAnswer m .done (.entries name copy first count (readEntries name first count (copyTables copy s)))) s
  | none => answer (mgmtAnswer m .refusedRange .none) s

/-- ORDER: the names are checked, and a valid order goes to the phase controller (R156). -/
def carryOrder (m : MgmtFrame) (s : State) : State :=
  match orderOf (fieldAt m.body 0 1) (fieldAt m.body 1 1) with
  | some o => orderArrives o m.tag s
  | none => answer (mgmtAnswer m .refusedRange .none) s

/-- The state content of READ-STATE, each item from its owner (R157). -/
def stateContent (s : State) : StateContent :=
  { phase := s.controller.phase
    mutedFrom := s.controller.mutedFrom
    queueLength := s.controller.queue.length
    stalled := s.controller.stalled
    mark0 := s.controller.mark0
    mark1 := s.controller.mark1
    counters := s.controller.counters
    ruptured := s.controller.ruptured
    last := s.tracker.last
    settled := s.tracker.settled
    expected := s.tracker.expected
    lag := s.tracker.lag
    pressure := s.monitor.pressure
    stale := s.monitor.stale
    pmax := s.monitor.pmax
    fill := s.outlet.records.length
    dense := s.outlet.dense
    cut := s.outlet.cut
    faultHeld := s.outlet.faultSlot.isSome
    faultSecond := s.outlet.faultSlot.any fun r => r.second.isSome
    halted := s.faults.halted
    pendingSet := s.faults.pendingSet
    seenSet := s.faults.seenSet }

/-- READ-STATE: the content as it stands, and then every pending condition is marked seen (R157). -/
def carryReadState (m : MgmtFrame) (s : State) : State :=
  answer (mgmtAnswer m .done (.state (stateContent s)))
    (s.onFaults fun u => { u with seenSet := u.seenSet.union u.pendingSet })

/-- SET-MARK: mark 0 or 1 set, or REFUSED-RANGE (R107, R156). -/
def carrySetMark (m : MgmtFrame) (s : State) : State :=
  match markOf (fieldAt m.body 0 1) with
  | some mark => answer (mgmtAnswer m .done .none) (s.onController (assignMark mark))
  | none => answer (mgmtAnswer m .refusedRange .none) s

/-- DROP-ORDERS: every queued order CANCELLED, then DONE (R158). -/
def carryDropOrders (m : MgmtFrame) (s : State) : State := answer (mgmtAnswer m .done .none) (cancelOrders s)

/-- The conditions a set of names clears: those pending and seen (R159). -/
def clearedBy (named : CondSet) (u : FaultUnit) : CondSet := named.inter (u.pendingSet.inter u.seenSet)

/-- CLEAR-CONDITIONS: REFUSED-RANGE when any of bits 9 to 15 is set (R171), otherwise both flags of each named condition
that is pending and seen are cleared (R159). -/
def carryClearConditions (m : MgmtFrame) (s : State) : State :=
  let bits := fieldAt m.body 0 2
  if bits < 512 then
    let cleared := clearedBy (condSetOfBits bits) s.faults
    answer (mgmtAnswer m .done (.cleared cleared))
      (s.onFaults fun u => { u with pendingSet := u.pendingSet.diff cleared, seenSet := u.seenSet.diff cleared })
  else answer (mgmtAnswer m .refusedRange .none) s

/-- A management frame carried out whole (R154, R156). RESET-LINK never comes this way: it does not wait (R160). -/
def carryOut (m : MgmtFrame) (s : State) : State :=
  match m.kind with
  | .identify => answer (mgmtAnswer m .done .identity) s
  | .writeTable => carryWriteTable m s
  | .readTable => carryReadTable m s
  | .order => carryOrder m s
  | .readState => carryReadState m s
  | .setMark => carrySetMark m s
  | .dropOrders => carryDropOrders m s
  | .clearConditions => carryClearConditions m s
  | .resetLink => linkReset m.tag s

/-- The responder takes the oldest waiting frame in hand. -/
def takeInHand (m : MgmtFrame) (rest : List MgmtFrame) (s : State) : State :=
  s.onResponder fun _ => { inHand := some m, waiting := rest }

/-- The responder is done with the frame in hand. -/
def release (s : State) : State := s.onResponder fun r => { r with inHand := none }

/-- The responder carries out waiting frames one at a time, in the order of their acceptance, at most `n` (R154). -/
def serve : (n : Nat) → State → State
  | 0, s => s
  | n + 1, s =>
    match s.responder.waiting with
    | [] => s
    | m :: rest => serve n (release (carryOut m (takeInHand m rest s)))

/-- The answer queue has no room for a further reservation (R143). -/
def answersFull (o : Outlet) : Bool := decide (Config.answerCapacity ≤ o.reservations + o.answers.length)

/-- A management frame that passed the inlet's checks (R143, R153, R154): discarded with MGMT-OVERRUN when there is no room,
otherwise it takes a reservation and joins the responder's FIFO, which is carried out. -/
def acceptMgmt (m : MgmtFrame) (s : State) : State :=
  if answersFull s.outlet then raise .mgmtOverrun s
  else
    serve (s.responder.waiting.length + 1)
      ((s.onOutlet fun o => { o with reservations := o.reservations + 1 }).onResponder fun r =>
        { r with waiting := r.waiting ++ [m] })

/-- A management frame other than RESET-LINK at the inlet (R153, R161). -/
def mgmtArrives (k : MgmtKind) (kind : Byte) (f : Frame) (s : State) : State := receive kind f (mgmtOf k) acceptMgmt s

/-- A RESET-LINK frame at the inlet: checked in HALTED too, where a failed check is no fault (R153, R160, R161). -/
def resetLinkArrives (f : Frame) (s : State) : State :=
  if s.faults.halted then
    if checkOk kindResetLink f then
      match mgmtOf .resetLink f.payload with
      | some m => linkReset m.tag s
      | none => s
    else s
  else receive kindResetLink f (mgmtOf .resetLink) (fun m s => linkReset m.tag s) s

/-- IDENTIFY (R155). -/
def execIdentify (f : Frame) (s : State) : Host.Outcome State Fault Refusal :=
  .next (mgmtArrives .identify kindIdentify f s)

/-- WRITE_TABLE (R131). -/
def execWriteTable (f : Frame) (s : State) : Host.Outcome State Fault Refusal :=
  .next (mgmtArrives .writeTable kindWriteTable f s)

/-- READ_TABLE (R132). -/
def execReadTable (f : Frame) (s : State) : Host.Outcome State Fault Refusal :=
  .next (mgmtArrives .readTable kindReadTable f s)

/-- READ_STATE (R157). -/
def execReadState (f : Frame) (s : State) : Host.Outcome State Fault Refusal :=
  .next (mgmtArrives .readState kindReadState f s)

/-- SET_MARK (R156). -/
def execSetMark (f : Frame) (s : State) : Host.Outcome State Fault Refusal :=
  .next (mgmtArrives .setMark kindSetMark f s)

/-- DROP_ORDERS (R158). -/
def execDropOrders (f : Frame) (s : State) : Host.Outcome State Fault Refusal :=
  .next (mgmtArrives .dropOrders kindDropOrders f s)

/-- CLEAR_CONDITIONS (R159). -/
def execClearConditions (f : Frame) (s : State) : Host.Outcome State Fault Refusal :=
  .next (mgmtArrives .clearConditions kindClearConditions f s)

/-- RESET_LINK (R160). -/
def execResetLink (f : Frame) (s : State) : Host.Outcome State Fault Refusal := .next (resetLinkArrives f s)

end Sys2Proof.Machine
end

