-- ==== Sys2Proof/Machine/OrderFrames.lean ====
section
/-! DEFINITION. The meanings of the nine ORDER commands. Each is the arrival of a frame of kind 13h (R170); which order it
names stands in its order byte (R172), which the responder reads (R156): a well-formed command carries its row's order byte,
or one that names no order (WellFormed, log entry 3). What the order does then is `orderArrives` (R92, R93) and, for a
queued one, `takeOrder` in a settle pass (R95). -/
namespace Sys2Proof.Machine

/-- An ORDER frame at the inlet (R153, R156). -/
def orderFrameArrives (f : Frame) (s : State) : State := mgmtArrives .order kindOrder f s

/-- ARM (R105): carried out on arrival in IDLE, refused in every other phase. -/
def execArm (f : Frame) (s : State) : Host.Outcome State Fault Refusal := .next (orderFrameArrives f s)

/-- RAMP (R93). -/
def execRamp (f : Frame) (s : State) : Host.Outcome State Fault Refusal := .next (orderFrameArrives f s)

/-- HOLD (R93). -/
def execHold (f : Frame) (s : State) : Host.Outcome State Fault Refusal := .next (orderFrameArrives f s)

/-- UNLOAD (R93). -/
def execUnload (f : Frame) (s : State) : Host.Outcome State Fault Refusal := .next (orderFrameArrives f s)

/-- MUTE (R93). -/
def execMute (f : Frame) (s : State) : Host.Outcome State Fault Refusal := .next (orderFrameArrives f s)

/-- UNMUTE (R93). -/
def execUnmute (f : Frame) (s : State) : Host.Outcome State Fault Refusal := .next (orderFrameArrives f s)

/-- SWAP (R101): carried out on arrival in IDLE, queued otherwise. -/
def execSwap (f : Frame) (s : State) : Host.Outcome State Fault Refusal := .next (orderFrameArrives f s)

/-- AWAIT (R93). -/
def execAwait (f : Frame) (s : State) : Host.Outcome State Fault Refusal := .next (orderFrameArrives f s)

/-- FINISH (R93). -/
def execFinish (f : Frame) (s : State) : Host.Outcome State Fault Refusal := .next (orderFrameArrives f s)

end Sys2Proof.Machine
end

