-- ==== Sys2Proof/Machine/Dispatch.lean ====
section
/-! DEFINITION. One arm per command. -/
namespace Sys2Proof.Machine

def exec (i : Instr) (s : State) : Host.Outcome State Fault Refusal :=
  match i with
  | .powerOnReset => Sys2Proof.Machine.execPowerOnReset s
  | .sample f => Sys2Proof.Machine.execSample f s
  | .settle f => Sys2Proof.Machine.execSettle f s
  | .process f => Sys2Proof.Machine.execProcess f s
  | .settlePass => Sys2Proof.Machine.execSettlePass s
  | .normalEnd c => Sys2Proof.Machine.execNormalEnd c s
  | .longEnd c => Sys2Proof.Machine.execLongEnd c s
  | .rearmEnd c => Sys2Proof.Machine.execRearmEnd c s
  | .readyLine level => Sys2Proof.Machine.execReadyLine level s
  | .transmissionComplete => Sys2Proof.Machine.execTransmissionComplete s
  | .identify f => Sys2Proof.Machine.execIdentify f s
  | .writeTable f => Sys2Proof.Machine.execWriteTable f s
  | .readTable f => Sys2Proof.Machine.execReadTable f s
  | .readState f => Sys2Proof.Machine.execReadState f s
  | .setMark f => Sys2Proof.Machine.execSetMark f s
  | .dropOrders f => Sys2Proof.Machine.execDropOrders f s
  | .clearConditions f => Sys2Proof.Machine.execClearConditions f s
  | .resetLink f => Sys2Proof.Machine.execResetLink f s
  | .arm f => Sys2Proof.Machine.execArm f s
  | .ramp f => Sys2Proof.Machine.execRamp f s
  | .hold f => Sys2Proof.Machine.execHold f s
  | .unload f => Sys2Proof.Machine.execUnload f s
  | .mute f => Sys2Proof.Machine.execMute f s
  | .unmute f => Sys2Proof.Machine.execUnmute f s
  | .swap f => Sys2Proof.Machine.execSwap f s
  | .await f => Sys2Proof.Machine.execAwait f s
  | .finish f => Sys2Proof.Machine.execFinish f s
  | .unknownKind kind f => Sys2Proof.Machine.execUnknownKind kind f s

end Sys2Proof.Machine
end

