-- ==== Sys2Proof/Machine/Step.lean ====
section
/-! DEFINITION. One step: the oldest waiting command is taken and executed on the part with the rest of the queue. -/
namespace Sys2Proof.Machine

/-- The step. On an empty queue no command has come and nothing happens at the part, which measures nothing against a
clock of its own (chapter 1, first paragraph): it idles (DESIGN CHOICE, log entry 10). -/
def step (s : State) : Host.Outcome State Fault Refusal :=
  match s.pending with
  | [] => .next s
  | c :: rest => exec c (s.withPending rest)

/-- The state with the command that the word spells at the front of the queue. The opcode table gives no row bits, so a
word spells none and the state is as it was. -/
def State.withFetchWord (s : State) (nbits w : Nat) : State :=
  match decodeTableWord nbits w with
  | some c => s.withPending (c :: s.pending)
  | none => s

end Sys2Proof.Machine
end

