-- ==== Sys2Proof/Machine/Encode.lean ====
section
/-! DEFINITION. The bytes of what leaves on the outlet (R170, R171, R173 to R176): every record and answer in the envelope
with a correct check, and pass-through frames as they arrived. -/
namespace Sys2Proof.Machine

/-! ## Enumeration codes (R171) -/

def boolCode (b : Bool) : Nat := b.toNat

def phaseCode : Phase → Nat
  | .idle => 0 | .armed => 1 | .ramp => 2 | .hold => 3 | .unload => 4 | .muted => 5 | .burst => 6

def modeCode : Mode → Nat
  | .off => 0 | .listen => 1 | .guard => 2

def tableCode : TableName → Nat
  | .channel => 0 | .pair => 1 | .decibel => 2 | .test => 3

def copyCode : CopyName → Nat
  | .staged => 0 | .active => 1

def answerCodeCode : AnswerCode → Nat
  | .done => 0 | .refusedFull => 1 | .refusedPhase => 2 | .refusedRange => 3 | .refusedInvalid => 4 | .cancelled => 5

def faultCodeCode : FaultCode → Nat
  | .frameCheck => 1 | .frameForm => 2 | .tickOverlap => 3 | .tickGap => 4 | .settleDisorder => 5 | .laneLag => 6
  | .modeSkip => 7 | .tableInvalid => 8

def faultClassCode : FaultClass → Nat
  | .fault => 0 | .trap => 1 | .abort => 2

def markSourceCode : MarkSource → Nat
  | .none => 0 | .pressureAtLeast => 1 | .pressureAtMost => 2 | .eventsInPhase => 3 | .holdQuiet => 4 | .rupture => 5
  | .denseEntry => 6

def cutStateCode : CutState → Nat
  | .none => 0 | .pending => 1 | .cut => 2

def cutTimingCode : CutTiming → Nat
  | .immediate => 0 | .atSettle => 1

def eventClassCode : EventClass → Nat
  | .normal => 0 | .guarded => 1

def closeReasonCode : CloseReason → Nat
  | .complete => 0 | .span => 1 | .flush => 2

def onsetOutcomeCode : OnsetOutcome → Nat
  | .decided => 0 | .none => 1

def resetCauseCode : ResetCause → Nat
  | .powerOn => 0 | .link => 1

def conditionCode : Condition → Nat
  | .denseEntered => 0 | .recordLoss => 1 | .passLoss => 2 | .arrivalOverflow => 3 | .eventOverflow => 4
  | .holdActive => 5 | .rupture => 6 | .pressureStale => 7 | .mgmtOverrun => 8

/-- The kind codes of the management frames (R170). -/
def mgmtKindCode : MgmtKind → Byte
  | .identify => kindIdentify
  | .writeTable => kindWriteTable
  | .readTable => kindReadTable
  | .order => kindOrder
  | .readState => kindReadState
  | .setMark => kindSetMark
  | .dropOrders => kindDropOrders
  | .clearConditions => kindClearConditions
  | .resetLink => kindResetLink

/-! ## The field convention (R171) -/

/-- One presence byte: bit i stands for the i-th optional field. -/
def presence (fields : List Bool) : List Byte := natBE 1 (bitsOf fields)

/-- An optional field: an absent one keeps its width and is sent as zero bytes. -/
def optField (w : Nat) (v : Option Nat) : List Byte := natBE w (v.getD 0)

/-! ## Table entries (R172) -/

def channelEntryBytes (e : ChannelEntry) : List Byte :=
  natBE 1 (modeCode e.mode) ++ natBE 2 e.threshold ++ [BitVec.ofInt 8 e.gain] ++ natBE 2 e.delay ++ natBE 2 e.quiet ++
    natBE 2 e.peakWindow ++ natBE 2 e.rearm ++ natBE 3 e.limit ++ natBE 1 e.shift ++ natBE 1 (boolCode e.forward)

def pairEntryBytes (e : PairEntry) : List Byte :=
  natBE 1 (boolCode e.valid) ++ natBE 1 e.a.val ++ natBE 1 e.b.val ++ natBE 2 e.spacing ++ natBE 2 e.velocity

def markSpecBytes (m : MarkSpec) : List Byte := natBE 1 (markSourceCode m.source) ++ natBE 3 m.parameter

def testTableBytes (t : TestTable) : List Byte :=
  natBE 2 t.window ++ natBE 3 t.span ++ natBE 1 t.quorum ++ natBE 2 t.high ++ natBE 2 t.low ++
    natBE 1 (cutTimingCode t.cutTiming) ++ natBE 2 t.holdLimit ++ natBE 1 t.onsetCount ++ natBE 2 t.reportMask.bits ++
    markSpecBytes t.mark0 ++ markSpecBytes t.mark1

def entriesBytes : TableEntries → List Byte
  | .channel es => es.flatMap channelEntryBytes
  | .pair es => es.flatMap pairEntryBytes
  | .decibel ls => ls.flatMap (natBE 2)
  | .test t => testTableBytes t

/-! ## Answers (R173) -/

/-- The identity content of R155. -/
def identityBytes : List Byte :=
  natBE 1 Config.vendorCode ++ natBE 2 Config.familyCode ++ natBE 1 Config.revision ++ natBE 1 Config.channelCount ++
    natBE 1 Config.cardCount ++ natBE 1 Config.pairCount ++ natBE 1 Config.slotCount ++
    natBE 1 Config.arrivalCapacity ++ natBE 2 Config.recordCapacity

/-- The nine test counters in R109's order. -/
def countersBytes (c : Counters) : List Byte :=
  [c.hits, c.suppressed, c.hitsDropped, c.events, c.guarded, c.unassociated, c.eventsDropped, c.passLost,
   c.testDropped].flatMap (natBE 4)

/-- The state content of R157 in its owner order, after one presence byte for muted-from phase, B, S, the four expected
ticks and the current pressure (R171, R173). The order queue length is sent in one byte as a count, which R171's width table
does not name (DEDUCED, log entry 27). -/
def stateContentBytes (c : StateContent) : List Byte :=
  presence [c.mutedFrom.isSome, c.last.isSome, c.settled.isSome, c.expected[0].isSome, c.expected[1].isSome,
    c.expected[2].isSome, c.expected[3].isSome, c.pressure.isSome] ++
  natBE 1 (phaseCode c.phase) ++ optField 1 (c.mutedFrom.map phaseCode) ++ natBE 1 c.queueLength ++
  natBE 1 (boolCode c.stalled) ++ natBE 1 (boolCode c.mark0) ++ natBE 1 (boolCode c.mark1) ++
  countersBytes c.counters ++ natBE 1 (boolCode c.ruptured) ++
  optField 6 c.last ++ optField 6 c.settled ++
  optField 6 c.expected[0] ++ natBE 1 (boolCode c.lag[0]) ++ optField 6 c.expected[1] ++ natBE 1 (boolCode c.lag[1]) ++
  optField 6 c.expected[2] ++ natBE 1 (boolCode c.lag[2]) ++ optField 6 c.expected[3] ++ natBE 1 (boolCode c.lag[3]) ++
  optField 3 c.pressure ++ natBE 1 (boolCode c.stale) ++ natBE 3 c.pmax ++
  natBE 2 c.fill ++ natBE 1 (boolCode c.dense) ++ natBE 1 (cutStateCode c.cut) ++
  natBE 1 (boolCode c.faultHeld) ++ natBE 1 (boolCode c.faultSecond) ++ natBE 1 (boolCode c.halted) ++
  natBE 2 c.pendingSet.bits ++ natBE 2 c.seenSet.bits

def answerDataBytes : AnswerData → List Byte
  | .none => []
  | .identity => identityBytes
  | .entries t c first count es =>
    natBE 1 (tableCode t) ++ natBE 1 (copyCode c) ++ natBE 1 first ++ natBE 1 count ++ entriesBytes es
  | .state c => stateContentBytes c
  | .cleared set => natBE 2 set.bits

def answerPayload (a : Answer) : List Byte :=
  a.tag :: mgmtKindCode a.kind :: natBE 1 (answerCodeCode a.code) ++ answerDataBytes a.data

/-! ## Records (R171, R174, R175) -/

/-- The flags byte of a HIT record: bit 0 CLIP, 1 LONG, 2 TRUNCATED, 3 LATE, 4 UNLISTED, 5 GUARD (R174). -/
def hitFlags (r : HitRecord) : Nat := bitsOf [r.clip, r.long, r.truncated, r.late, r.unlisted, r.guarded]

def hitPayload (r : HitRecord) : List Byte :=
  presence [r.pressure.isSome] ++ natBE 1 r.chan.val ++ natBE 2 r.serial ++ natBE 6 r.raw ++ natBE 6 r.comp ++
    natBE 6 r.endTick ++ natBE 3 r.duration ++ natBE 2 r.rise ++ natBE 2 r.peak ++ natBE 1 r.peakDb ++
    natBE 2 r.crossings ++ natBE 4 r.energy ++ natBE 1 r.shift ++ natBE 1 (phaseCode r.phase) ++ natBE 1 (hitFlags r) ++
    optField 3 r.pressure

/-- The ten bytes of a location: a ZONAL one fills only kind and zone channel, an absent one none (R175). -/
def locationBytes : Option Location → List Byte
  | none => natBE 10 0
  | some l =>
    match l.located with
    | none => natBE 1 0 ++ natBE 1 l.zone.val ++ natBE 8 0
    | some p =>
      natBE 1 1 ++ natBE 1 l.zone.val ++ natBE 1 p.pair.val ++ natBE 1 p.a.val ++ natBE 1 p.b.val ++
        natBE 2 p.spacing ++ natBE 2 p.position ++ natBE 1 (boolCode p.outside)

/-- A member entry: 11 bytes; peak dB FFh when the member is UNFINISHED (R175). -/
def memberBytes (m : MemberRecord) : List Byte :=
  natBE 1 m.chan.val ++ natBE 2 m.serial ++ natBE 6 m.tick ++
    natBE 1 (bitsOf [m.mode == .guard, m.clip, m.unfinished]) ++ natBE 1 (if m.unfinished then 255 else m.peakDb.getD 0)

def eventPayload (r : EventRecord) : List Byte :=
  presence [r.pressure.isSome, r.location.isSome] ++ natBE 4 r.number ++ natBE 1 (eventClassCode r.cls) ++
    natBE 1 (closeReasonCode r.reason) ++ natBE 6 r.first ++ natBE 6 r.closeTick ++ natBE 2 r.window ++ natBE 3 r.span ++
    natBE 1 r.memberCount ++ natBE 1 r.clipped ++ natBE 1 r.unfinished ++ natBE 1 (phaseCode r.phase) ++
    optField 3 r.pressure ++ locationBytes r.location ++ r.members.flatMap memberBytes

/-- The hold part: an optional group of fields (R171). -/
def holdPartBytes : Option HoldPart → List Byte
  | none => natBE 9 0
  | some h => natBE 2 h.tally ++ natBE 6 h.span ++ natBE 1 (boolCode h.interrupted)

def phasePayload (r : PhaseRecord) : List Byte :=
  presence [r.settled.isSome, r.pressure.isSome, r.hold.isSome] ++ natBE 1 (phaseCode r.old) ++
    natBE 1 (phaseCode r.new) ++ optField 6 r.settled ++ optField 3 r.pressure ++ natBE 4 r.events ++
    holdPartBytes r.hold

def onsetPayload (r : OnsetRecord) : List Byte :=
  presence [r.deciding.isSome, r.pon.isSome, r.ratio.isSome] ++ natBE 2 r.ramp ++ natBE 1 (onsetOutcomeCode r.outcome) ++
    natBE 3 r.pref ++ natBE 1 r.count ++ natBE 2 r.events ++ natBE 6 r.settled ++ optField 4 r.deciding ++
    optField 3 r.pon ++ optField 2 r.ratio ++ natBE 1 (boolCode r.above) ++ natBE 1 (boolCode r.stale)

def rupturePayload (r : RuptureRecord) : List Byte :=
  presence [r.pressure.isSome] ++ natBE 4 r.event ++ natBE 1 (eventClassCode r.cls) ++ natBE 1 r.clipped ++
    natBE 1 r.quorum ++ natBE 1 (phaseCode r.phase) ++ natBE 6 r.settled ++ optField 3 r.pressure ++ natBE 3 r.pmax

def summaryPayload (r : SummaryRecord) : List Byte :=
  countersBytes r.counters ++ natBE 3 r.pmax ++ natBE 1 (boolCode r.rupture) ++ natBE 1 (phaseCode r.before)

def conditionPayload (r : ConditionRecord) : List Byte :=
  presence [r.settled.isSome] ++ natBE 1 (conditionCode r.condition) ++ natBE 1 (phaseCode r.phase) ++
    optField 6 r.settled ++ natBE 2 r.pendingSet.bits

/-- The kind code of a record (R170). -/
def recordKind : Record → Byte
  | .hit _ => 0x21
  | .event _ => 0x22
  | .phase _ => 0x23
  | .onset _ => 0x24
  | .rupture _ => 0x25
  | .summary _ => 0x26
  | .condition _ => 0x27
  | .identity _ => 0x28

def recordPayload : Record → List Byte
  | .hit r => hitPayload r
  | .event r => eventPayload r
  | .phase r => phasePayload r
  | .onset r => onsetPayload r
  | .rupture r => rupturePayload r
  | .summary r => summaryPayload r
  | .condition r => conditionPayload r
  | .identity cause => identityBytes ++ natBE 1 (resetCauseCode cause)

/-! ## The fault record (R176) -/

def faultPayload (r : FaultRecord) : List Byte :=
  presence [r.selector.isSome, r.settleTick.isSome, r.second.isSome, r.secondSelector.isSome] ++
    natBE 1 (faultCodeCode r.code) ++ natBE 1 (faultClassCode r.cls) ++ optField 1 r.selector ++ optField 6 r.settleTick ++
    optField 1 (r.second.map faultCodeCode) ++ optField 1 r.secondSelector ++ natBE 1 (boolCode r.halted)

/-! ## The frame on the outlet link -/

/-- The bytes of a frame in transmission, first byte first: built records and answers in the envelope with a correct
check, pass-through frames byte for byte as they arrived (R141, R170). -/
def outFrameBytes : OutFrame → List Byte
  | .fault r => frameBytes 0x29 (intactFrame 0x29 (faultPayload r))
  | .answer a => frameBytes 0x20 (intactFrame 0x20 (answerPayload a))
  | .record r => frameBytes (recordKind r) (intactFrame (recordKind r) (recordPayload r))
  | .passed p => frameBytes p.kind p.frame

end Sys2Proof.Machine
end

