-- ==== Sys2Proof/Safety.lean ====
section
/-! DEFINITION. What counts as a sound state of the part, in the terms the statements use: the relations the manual says the
blocks keep (R4, R18, R54, R60, R91, R133, R140, R143, R145, R166), each of which every step keeps; and the readings of the
outlet that the statements speak of. -/
namespace Sys2Proof.Machine

/-! ## Readings of the outlet -/

/-- The link is free: the ready line is asserted and no frame is in transmission (R141). -/
def linkFree (s : State) : Bool := s.ready && s.outlet.sending.isNone

/-- The answers that have been built and not yet wholly sent, in the order built: the one in transmission, then the answer
queue (R144). -/
def answerTrail (o : Outlet) : List Answer :=
  match o.sending with
  | some (.answer a) => a :: o.answers
  | _ => o.answers

/-- The records admitted and not yet wholly sent, in the order of admission (R146). -/
def recordTrail (o : Outlet) : List Record :=
  match o.sending with
  | some (.record r) => r :: o.records
  | _ => o.records

/-- What the arbiter's choice makes of an outlet with no frame in transmission (R141). -/
def ArbiterChoice (o o' : Outlet) : Prop :=
  (∀ r, o.faultSlot = some r → o' = { o with faultSlot := none, sending := some (.fault r) }) ∧
  (∀ a as, o.faultSlot = none → o.answers = a :: as → o' = { o with answers := as, sending := some (.answer a) }) ∧
  (∀ r rs, o.faultSlot = none → o.answers = [] → o.records = r :: rs →
    o' = { o with records := rs, sending := some (.record r) }) ∧
  (∀ p ps, o.faultSlot = none → o.answers = [] → o.records = [] → o.passBuffer = p :: ps →
    o' = { o with passBuffer := ps, sending := some (.passed p) }) ∧
  (o.faultSlot = none → o.answers = [] → o.records = [] → o.passBuffer = [] → o' = o)

/-- A HIT or an EVENT record (R145). -/
def isDataRecord : Record → Bool
  | .hit _ | .event _ => true
  | _ => false

/-! ## Frames and answers as the statements speak of them -/

/-- The payload of a frame command meets what its kind requires: the lengths of R172 and the field rules of R2. A frame of
an unknown kind never does (R170). A WRITE-TABLE payload has 4 bytes and count entries, of the size of the table its table
byte names, and any length of at least 4 when that byte names none (R172). -/
def payloadFits : Instr → Bool
  | .sample f =>
    let n := fieldAt f.payload 7 1
    decide (fieldAt f.payload 0 1 ≤ 3 ∧ 1 ≤ n ∧ n ≤ 32 ∧ f.payload.length = 8 + 16 * n ∧
      fieldAt f.payload 1 6 + n ≤ 281474976710655)
  | .settle f => f.payload.length == 6
  | .process f => f.payload.length == 10
  | .identify f | .readState f | .dropOrders f | .resetLink f => f.payload.length == 1
  | .setMark f => f.payload.length == 2
  | .arm f | .ramp f | .hold f | .unload f | .mute f | .unmute f | .swap f | .await f | .finish f
  | .clearConditions f => f.payload.length == 3
  | .readTable f => f.payload.length == 5
  | .writeTable f =>
    let count := fieldAt f.payload 3 1
    decide (4 ≤ f.payload.length ∧ (fieldAt f.payload 1 1 = 0 → f.payload.length = 4 + count * 17) ∧
      (fieldAt f.payload 1 1 = 1 → f.payload.length = 4 + count * 7) ∧
      (fieldAt f.payload 1 1 = 2 → f.payload.length = 4 + count * 2) ∧
      (fieldAt f.payload 1 1 = 3 → f.payload.length = 4 + count * 24))
  | .unknownKind _ _ => false
  | .powerOnReset | .settlePass | .normalEnd _ | .longEnd _ | .rearmEnd _ | .readyLine _ | .transmissionComplete => true

/-- A frame that the inlet's checks pass, outside HALTED (R2, R110, R153). -/
structure FramePasses (kind : Byte) (f : Frame) (s : State) : Prop where
  running : s.faults.halted = false
  check : checkOk kind f = true

/-- A management frame that is accepted and taken in hand at once: it passes the inlet's checks, the answer queue has room
for its reservation, and the responder is between frames (R143, R153, R154). -/
structure Accepted (k : MgmtKind) (f : Frame) (s : State) : Prop where
  running : s.faults.halted = false
  check : checkOk (mgmtKindCode k) f = true
  length : mgmtLengthOk k f.payload = true
  room : s.outlet.reservations + s.outlet.answers.length < 8
  responder : s.responder = { inHand := none, waiting := [] }

/-- The answer to the management frame `f` of kind `k`: its tag, its kind, a code, data (R154). -/
def replyTo (k : MgmtKind) (f : Frame) (code : AnswerCode) (data : AnswerData) : Answer :=
  { tag := byteAt f.payload 0, kind := k, code, data }

/-- The state in which an answer has joined the answer queue in the place its frame's reservation held, and the arbiter has
had its turn (R141, R144). -/
def answered (a : Answer) (s : State) : State :=
  arbitrate { s with outlet := { s.outlet with answers := s.outlet.answers ++ [a] } }

/-! ## Settle passes as the statements speak of them -/

/-- The assembler has nothing to do in the pass at hand: no entry lies below S, no open event is due, no end notice is on
its way (R61, R64). -/
def nothingDue (s : State) : Prop :=
  s.assembler.inFlight = [] ∧ (∀ x ∈ s.assembler.arrivals, passTick s ≤ x.tick) ∧
  ∀ (i : Fin 8) (e : Event), s.assembler.slots[i] = some e → closeReasonAt e (passTick s) = none

/-- A pass is in progress with nothing due in the assembler, no SETTLE frame waits, and the part is not HALTED. -/
structure PassRuns (s : State) : Prop where
  pass : s.tracker.passInProgress = true
  due : nothingDue s
  waiting : s.tracker.waiting = none
  running : s.faults.halted = false

/-- The pass is over (R14). -/
def passOver (s : State) : State := { s with tracker := { s.tracker with passInProgress := false, waiting := none } }

/-- No hit is open on any channel. -/
def noOpenHit (s : State) : Prop := ∀ (c : Chan) (h : Hit), s.units[c].ctx ≠ .openHit h

/-- The assembler holds nothing. -/
def assemblerEmpty (s : State) : Prop :=
  s.assembler.arrivals = [] ∧ (∀ i : Fin 8, s.assembler.slots[i] = none) ∧ s.assembler.inFlight = []

/-- The record that the end of a reload ramp still UNDECIDED owes (R120, R121). -/
def onsetOwed (s : State) : Option OnsetRecord :=
  match s.controller.ramp with
  | none => none
  | some r =>
    if r.reload = true ∧ r.onset = .undecided then
      some { ramp := r.number, outcome := .none, pref := r.pref.getD 0, count := s.active.test.onsetCount,
             events := r.events, settled := passTick s, deciding := none, pon := none, ratio := none, above := false,
             stale := false }
    else none

/-- An offer that may not be due. -/
def offerSome (r : Option Record) (s : State) : State :=
  match r with
  | some r => offerRecord r s
  | none => s

/-! ## Relations the blocks keep -/

/-- A clear condition is never seen (R166). -/
def CondsSound (s : State) : Prop :=
  ∀ c : Condition, s.faults.seenSet.has c = true → s.faults.pendingSet.has c = true

/-- The cut state is NONE whenever dense mode is off (R140). -/
def CutSound (s : State) : Prop := s.outlet.dense = false → s.outlet.cut = .none

/-- The active decibel table is non-decreasing, and the active low mark is below the high mark (R133). -/
def TablesSound (s : State) : Prop :=
  nonDecreasing s.active.levels.toList = true ∧ s.active.test.low < s.active.test.high

/-- Reservations and answers number at most 8, the order queue holds at most 4 orders, each with its reservation, and the
responder is between frames (R94, R143, R154). -/
def AnswersSound (s : State) : Prop :=
  s.outlet.reservations + s.outlet.answers.length ≤ 8 ∧ s.controller.queue.length ≤ 4 ∧
  s.outlet.reservations = s.controller.queue.length ∧ s.responder.inHand = none ∧ s.responder.waiting = []

/-- The record queue, the pass-through buffer and the arrival list keep within their places (R54, R145, R147). -/
def PlacesSound (s : State) : Prop :=
  s.outlet.records.length ≤ 512 ∧ (s.outlet.records.filter isDataRecord).length ≤ 496 ∧
  s.outlet.passBuffer.length ≤ 16 ∧ s.assembler.arrivals.length ≤ 64

/-- The four relations of R4, and a pass has its S. -/
def TrackerSound (s : State) : Prop :=
  (∀ t, s.tracker.settled = some t → ∃ b, s.tracker.last = some b ∧ t ≤ b) ∧
  (∀ (k : Card) (e b : Tick), s.tracker.expected[k] = some e → s.tracker.last = some b → b ≤ e) ∧
  (∀ k : Card, s.tracker.lag[k] = true → (s.tracker.expected[k]).isSome = true) ∧
  (s.tracker.passInProgress = true → s.tracker.settled.isSome = true)

/-- What the phase goes with: the muted-from phase is present in MUTED alone and is a listening phase (R91); a hold is in
progress in HOLD alone; a ramp in RAMP, or paused by MUTE; IDLE has no queued order (R94), and a stalled head is in the queue;
HALTED is IDLE with no pass (R15, R91). -/
def PhaseSound (s : State) : Prop :=
  (s.controller.phase = .muted ↔ s.controller.mutedFrom.isSome = true) ∧
  (∀ p, s.controller.mutedFrom = some p → listeningPhase p = true) ∧
  (s.controller.phase = .hold ↔ s.controller.hold.isSome = true) ∧
  ((s.controller.phase = .ramp ∨ s.controller.mutedFrom = some .ramp) ↔ s.controller.ramp.isSome = true) ∧
  (s.controller.phase = .idle → s.controller.queue = []) ∧
  (s.controller.stalled = true → s.controller.queue ≠ []) ∧
  (s.faults.halted = true → s.controller.phase = .idle ∧ s.tracker.passInProgress = false)

/-- A context that is not DARK is the context of a channel that listens, and a DARK unit has no sample left to take
(R18). -/
def ListeningSound (s : State) : Prop :=
  ∀ c : Chan,
    (s.units[c].ctx ≠ .dark → s.faults.halted = false ∧ listeningPhase s.controller.phase = true ∧
      modeListens s.active.channels[c].mode = true) ∧
    (s.units[c].ctx = .dark → s.units[c].lane = [])

/-- An entry stands before or level with another in the order of the arrival list (R54). -/
def arrivalLe (x y : Arrival) : Prop := x.tick < y.tick ∨ (x.tick = y.tick ∧ x.chan ≤ y.chan)

/-- The arrival list is in order of compensated tick, ties in order of channel number (R54). -/
def ArrivalsSound (s : State) : Prop := s.assembler.arrivals.Pairwise arrivalLe

/-- An open event has 1 to 8 members on different channels, the first of them at its first tick, all of them within its
window (R60, R62). -/
def eventSound (e : Event) : Prop :=
  1 ≤ e.members.length ∧ e.members.length ≤ 8 ∧ (e.members.map (·.chan)).Nodup ∧
  (e.members.head?.map (·.tick)) = some e.first ∧
  ∀ m ∈ e.members, e.first ≤ m.tick ∧ m.tick ≤ e.first + e.window

/-- Every open event is sound. -/
def EventsSound (s : State) : Prop := ∀ (i : Fin 8) (e : Event), s.assembler.slots[i] = some e → eventSound e

/-- The parts of a snapshot lie within the ranges of the entry it was copied from (R17, R127), its mode LISTEN or GUARD. -/
def snapSound (p : Snapshot) : Prop :=
  1 ≤ p.threshold ∧ p.threshold ≤ 32767 ∧ 1 ≤ p.quiet ∧ p.quiet ≤ 65535 ∧ 1 ≤ p.peakWindow ∧ p.peakWindow ≤ 65535 ∧
  1 ≤ p.limit ∧ p.limit ≤ 1048575 ∧ p.rearm ≤ 65535 ∧ p.shift ≤ 15 ∧ p.delay ≤ 4095 ∧ modeListens p.mode = true

/-- An OPEN context's hit parts lie within their ranges (R17): the crossing count in 1..65535, the peak in T..32768, the
peak tick in raw arrival..raw arrival + P − 1, the last supra-threshold tick at least the raw arrival tick (and at least the
peak tick, R41), the energy accumulator at most 32768 for each tick of the hit so far and so at most 34,359,705,600, the
quiet run below Q with at most 32768 for each of its ticks in the quiet sum; and the hit still short of its limit (R30). -/
def hitSound (h : Hit) : Prop :=
  snapSound h.snap ∧ h.comp = h.raw - h.snap.delay ∧ 1 ≤ h.crossings ∧ h.crossings ≤ 65535 ∧
  h.snap.threshold ≤ h.peak ∧ h.peak ≤ 32768 ∧ h.raw ≤ h.peakTick ∧ h.peakTick < h.raw + h.snap.peakWindow ∧
  h.raw ≤ h.lastSupra ∧ h.peakTick ≤ h.lastSupra ∧ h.quietRun < h.snap.quiet ∧ h.quietSum ≤ 32768 * h.quietRun ∧
  h.energy ≤ 32768 * (h.lastSupra + 1 - h.raw) ∧ h.energy ≤ 34359705600 ∧
  h.lastSupra + h.quietRun + 1 < h.raw + h.snap.limit

/-- Every OPEN context is sound. -/
def HitsSound (s : State) : Prop := ∀ (c : Chan) (h : Hit), s.units[c].ctx = .openHit h → hitSound h

/-- What a unit has been handed lies ahead of what it has taken and below its card's expected tick: the samples in its lane
come in tick order, each a 16-bit value at a tick below the expected one, and an OPEN hit's ticks so far lie below both
(R9, R19). -/
def unitAhead (u : ChannelUnit) (expected : Option Tick) : Prop :=
  u.lane.Pairwise (fun x y => x.tick < y.tick) ∧
  (∀ x ∈ u.lane, x.value.natAbs ≤ 32768 ∧ ∃ e, expected = some e ∧ x.tick < e) ∧
  ∀ h, u.ctx = .openHit h →
    (∀ x ∈ u.lane, h.lastSupra + h.quietRun < x.tick) ∧ ∃ e, expected = some e ∧ h.lastSupra + h.quietRun < e

/-- Every unit is ahead in this sense of its own card's expected tick. -/
def LanesSound (s : State) : Prop := ∀ (k : Card) (l : Fin 8), unitAhead s.units[laneChan k l] s.tracker.expected[k]

/-- The fields of a channel entry lie within their ranges (R127). -/
def channelEntryOk (e : ChannelEntry) : Prop :=
  1 ≤ e.threshold ∧ e.threshold ≤ 32767 ∧ -20 ≤ e.gain ∧ e.gain ≤ 40 ∧ e.delay ≤ 4095 ∧ 1 ≤ e.quiet ∧ e.quiet ≤ 65535 ∧
  1 ≤ e.peakWindow ∧ e.peakWindow ≤ 65535 ∧ e.rearm ≤ 65535 ∧ 1 ≤ e.limit ∧ e.limit ≤ 1048575 ∧ e.shift ≤ 15

/-- The fields of a pair entry lie within their ranges, and a valid one has two channels (R128). -/
def pairEntryOk (e : PairEntry) : Prop :=
  1 ≤ e.spacing ∧ e.spacing ≤ 65535 ∧ 1 ≤ e.velocity ∧ e.velocity ≤ 65535 ∧ (e.valid = true → e.a ≠ e.b)

/-- The fields of a test table lie within their ranges (R130). -/
def testTableOk (t : TestTable) : Prop :=
  1 ≤ t.window ∧ t.window ≤ 65535 ∧ t.span ≤ 1048575 ∧ 2 ≤ t.quorum ∧ t.quorum ≤ 8 ∧ 2 ≤ t.high ∧ t.high ≤ 496 ∧
  t.low ≤ 495 ∧ t.holdLimit ≤ 65535 ∧ 1 ≤ t.onsetCount ∧ t.onsetCount ≤ 255 ∧ t.mark0.parameter ≤ 16777215 ∧
  t.mark1.parameter ≤ 16777215

/-- Every field of a copy lies within its range (R126 to R130). -/
def TablesInRange (t : Tables) : Prop :=
  (∀ c : Chan, channelEntryOk t.channels[c]) ∧ (∀ i : Fin 16, pairEntryOk t.pairs[i]) ∧
  (∀ i : Fin 100, t.levels[i] ≤ 32768) ∧ testTableOk t.test

/-- Both copies of every table lie within their ranges (R131). -/
def CopiesInRange (s : State) : Prop := TablesInRange s.staged ∧ TablesInRange s.active

end Sys2Proof.Machine
end

