-- ==== Sys2Proof/Certificates/Slice0/Obligations.lean ====
section
/-! DEFINITION. The statements for the provers, one `Obligations.<Name>` each, from the numbered rules of spec/. -/

section

open Sys2Proof Sys2Proof.Machine

/-! ## The machine as a whole -/

/-- The step takes the command at the front of the queue and runs it on the part with the queue's rest; on an empty queue
the part idles (the idling is the model's choice, log entry 10). -/
def Obligations.StepTakesFrontCommand : Prop :=
  (∀ (c : Instr) (rest : List Instr) (s : State), s.pending = c :: rest → step s = exec c (s.withPending rest)) ∧
  (∀ s : State, s.pending = [] → step s = .next s)

/-- Every command completes: no command faults and none is refused (the model's reading, log entry 15: the manual gives every
failure an effect); none touches the queue of commands, the resets included (the model's choice, log entries 13 and 20), and
none but READY_LINE moves the ready line, the resets included (the model's choice, log entry 1). -/
def Obligations.EveryCommandCompletes : Prop :=
  ∀ (c : Instr) (s : State), ∃ t, exec c s = .next t ∧ t.pending = s.pending ∧
    ((∀ level, c ≠ .readyLine level) → t.ready = s.ready)

/-- POWER_ON_RESET leaves every block at its power-on values, the tables at their defaults, and the IDENTITY record in the
record queue, or in transmission when the ready line is asserted (R4, R17, R53, R90, R111, R126 to R130, R140, R152). That
the ready line stays at its level, so that the IDENTITY record is chosen within the step when the line is asserted, is the
model's choice (log entry 1), and so is it that the queue of commands and the count of free values stay (log entry 20). The
level of the line at State.reset is no part of this statement. -/
def Obligations.PowerOnResetRestoresDefaults : Prop :=
  (∀ s : State, exec .powerOnReset s = .next
    { State.reset with
      outlet :=
        { faultSlot := none, answers := [], reservations := 0,
          records := if s.ready then [] else [.identity .powerOn],
          passBuffer := [], dense := false, cut := .none,
          sending := if s.ready then some (.record (.identity .powerOn)) else none }
      ready := s.ready, freeDraws := s.freeDraws, pending := s.pending }) ∧
  (∀ k : Card, State.reset.tracker.expected[k] = none ∧ State.reset.tracker.lag[k] = false) ∧
  State.reset.tracker.last = none ∧ State.reset.tracker.settled = none ∧
  State.reset.tracker.passInProgress = false ∧ State.reset.tracker.waiting = none ∧
  (∀ c : Chan, State.reset.units[c] = { serial := 0, ctx := .dark, lane := [] }) ∧
  State.reset.assembler.arrivals = [] ∧ (∀ i : Fin 8, State.reset.assembler.slots[i] = none) ∧
  State.reset.assembler.eventNumber = 0 ∧
  State.reset.controller =
    { phase := .idle, mutedFrom := none, queue := [], stalled := false, mark0 := false, mark1 := false, phaseEvents := 0,
      counters := ⟨0, 0, 0, 0, 0, 0, 0, 0, 0⟩, ruptured := false, ramp := none, lastRamp := 0, unloadNoted := false,
      hold := none } ∧
  State.reset.monitor = { pressure := none, stale := false, pmax := 0 } ∧
  State.reset.staged = State.reset.active ∧
  (∀ c : Chan, State.reset.active.channels[c] =
    { mode := .off, threshold := 1000, gain := 0, delay := 0, quiet := 800, peakWindow := 200, rearm := 1000,
      limit := 65536, shift := 4, forward := false }) ∧
  (∀ i : Fin 16, State.reset.active.pairs[i] = { valid := false, a := 0, b := 0, spacing := 1, velocity := 1 }) ∧
  (∀ i : Fin 100, State.reset.active.levels[i] = 328 * i.val) ∧
  State.reset.active.test =
    { window := 1000, span := 4000, quorum := 4, high := 384, low := 128, cutTiming := .immediate, holdLimit := 10,
      onsetCount := 5, reportMask := ⟨true, true, true, true, true, true, true, true, true⟩,
      mark0 := { source := .none, parameter := 0 }, mark1 := { source := .none, parameter := 0 } } ∧
  State.reset.responder = { inHand := none, waiting := [] } ∧
  (∀ c : Condition, State.reset.faults.pendingSet.has c = false ∧ State.reset.faults.seenSet.has c = false) ∧
  State.reset.faults.halted = false

/-- RESET_LINK, in HALTED and outside it, returns every block to its reset values, keeps both copies of every table, and
leaves the DONE answer ahead of the IDENTITY record; in HALTED a frame that fails its checks changes nothing (R160, R161).
That a frame in transmission is gone within the step is the model's reading (log entry 8), and that the ready line, the
queue of commands and the count of free values stay is its choice (log entries 1 and 20). -/
def Obligations.ResetLinkResetsAllButTables : Prop :=
  (∀ (f : Frame) (s : State), checkOk kindResetLink f = true → f.payload.length = 1 →
    exec (.resetLink f) s = .next
      { State.reset with
        staged := s.staged, active := s.active
        outlet :=
          { faultSlot := none
            answers := if s.ready then [] else [replyTo .resetLink f .done .none]
            reservations := 0, records := [.identity .link], passBuffer := [], dense := false, cut := .none
            sending := if s.ready then some (.answer (replyTo .resetLink f .done .none)) else none }
        ready := s.ready, freeDraws := s.freeDraws, pending := s.pending }) ∧
  (∀ (f : Frame) (s : State), s.faults.halted = true → (checkOk kindResetLink f = false ∨ f.payload.length ≠ 1) →
    exec (.resetLink f) s = .next s)

/-- In HALTED every frame other than RESET-LINK is discarded before any check and changes nothing (R161, R2, R110), and
nothing but a power-on reset or a link reset leaves HALTED (R165). -/
def Obligations.HaltedUntilReset : Prop :=
  (∀ (c : Instr) (k : Byte) (f : Frame) (s : State), commandFrame c = some (k, f) → (∀ g, c ≠ .resetLink g) →
     s.faults.halted = true → exec c s = .next s) ∧
  (∀ (c : Instr) (s t : State), exec c s = .next t → s.faults.halted = true → t.faults.halted = false →
     c = .powerOnReset ∨ ∃ f, c = .resetLink f ∧ checkOk kindResetLink f = true)

/-- Once the phase is BURST it changes only to IDLE (R91). No frame waits for the responder between commands (R154, kept by
every step: `AnswersKept`). -/
def Obligations.BurstLeftOnlyToIdle : Prop :=
  ∀ (c : Instr) (s t : State), exec c s = .next t → s.controller.phase = .burst → s.responder.waiting = [] →
    t.controller.phase = .burst ∨ t.controller.phase = .idle

/-- The settled tick never decreases: where it is present before and after a command, it is not lower (R12). -/
def Obligations.SettledTickNeverDecreases : Prop :=
  ∀ (c : Instr) (s t : State) (a b : Tick), exec c s = .next t → s.tracker.settled = some a →
    t.tracker.settled = some b → a ≤ b

/-- A staged copy is changed by WRITE-TABLE and by a power-on reset alone (R126). -/
def Obligations.StagedCopyChangedOnlyByWrite : Prop :=
  ∀ (c : Instr) (s t : State), exec c s = .next t → s.responder.waiting = [] → t.staged ≠ s.staged →
    c = .powerOnReset ∨ ∃ f, c = .writeTable f

/-- An answer that has been built is never dropped, and the answers leave in the order they were built: outside the two
resets, the answers built and not yet sent stay, in order, at the front of those of the next state, but for the one whose
last byte has gone (R144). -/
def Obligations.AnswersNeverDropped : Prop :=
  ∀ (c : Instr) (s t : State), exec c s = .next t → s.responder.waiting = [] → c ≠ .powerOnReset →
    (∀ f, c ≠ .resetLink f) →
    (c ≠ .transmissionComplete → answerTrail s.outlet <+: answerTrail t.outlet) ∧
    (c = .transmissionComplete → s.outlet.answers <+: answerTrail t.outlet)

/-! ## The outlet link -/

/-- READY_LINE and TRANSMISSION_COMPLETE: with no frame in transmission and the ready line asserted the arbiter chooses the
oldest item of the first place that holds one, of fault slot, answer queue, record queue and pass-through buffer; while the
line is deasserted it chooses nothing, and a frame in transmission goes on to its end. Nothing else changes. The turn that
the arbiter has after every offer, report and answer makes the same choice under the same two conditions (R141). -/
def Obligations.ArbiterChoosesByStrictPriority : Prop :=
  (∀ (level : Bool) (s : State), ∃ t, exec (.readyLine level) s = .next t ∧
    t = { s with ready := level, outlet := t.outlet } ∧
    (level = false ∨ s.outlet.sending ≠ none → t.outlet = s.outlet) ∧
    (level = true → s.outlet.sending = none → ArbiterChoice s.outlet t.outlet)) ∧
  (∀ s : State, ∃ t, exec .transmissionComplete s = .next t ∧ t = { s with outlet := t.outlet } ∧
    (s.ready = false → t.outlet = { s.outlet with sending := none }) ∧
    (s.ready = true → ArbiterChoice { s.outlet with sending := none } t.outlet)) ∧
  (∀ s : State, arbitrate s = { s with outlet := (arbitrate s).outlet } ∧
    (s.ready = false ∨ s.outlet.sending ≠ none → (arbitrate s).outlet = s.outlet) ∧
    (s.ready = true → s.outlet.sending = none → ArbiterChoice s.outlet (arbitrate s).outlet))

/-- A SAMPLE frame that passes the inlet's checks is offered to pass-through when one of its card's active entries forwards,
and a SETTLE frame always, before the tracker decides anything (R3; that an entry counts whatever its mode is the model's
choice, log entry 24); the offer is refused in HALTED and under a cut, lost
with PASS-LOSS when the buffer is full, and otherwise added at the tail (R147). -/
def Obligations.PassThroughOffer : Prop :=
  (∀ (p : PassFrame) (s : State), s.faults.halted = true → offerPass p s = s) ∧
  (∀ (p : PassFrame) (s : State), s.outlet.cut = .cut → offerPass p s = s) ∧
  (∀ (p : PassFrame) (s : State), s.faults.halted = false → s.outlet.cut ≠ .cut → 16 ≤ s.outlet.passBuffer.length →
    offerPass p s = raise .passLoss
      (onCounters (fun k => { k with passLost := if k.passLost < 4294967295 then k.passLost + 1 else k.passLost }) s)) ∧
  (∀ (p : PassFrame) (s : State), s.faults.halted = false → s.outlet.cut ≠ .cut → s.outlet.passBuffer.length < 16 →
    offerPass p s = arbitrate { s with outlet := { s.outlet with passBuffer := s.outlet.passBuffer ++ [p] } }) ∧
  (∀ (f : Frame) (k : Card) (s : State), (∃ l : Fin 8, s.active.channels[laneChan k l].forward = true) →
    offerSample f k s = offerPass { kind := kindSample, frame := f } s) ∧
  (∀ (f : Frame) (k : Card) (s : State), (∀ l : Fin 8, s.active.channels[laneChan k l].forward = false) →
    offerSample f k s = s) ∧
  (∀ (f : Frame) (x : SampleFrame) (s : State), FramePasses kindSample f s → sampleOf f.payload = some x →
    exec (.sample f) s = .next (trackSample x (offerSample f x.card s))) ∧
  (∀ (f : Frame) (s : State), FramePasses kindSettle f s → f.payload.length = 6 →
    exec (.settle f) s = .next (trackSettle (beNat f.payload) (offerPass { kind := kindSettle, frame := f } s)))

/-- An offer to the record queue (R145, R149, R151): discarded in HALTED; in dense mode a HIT record is suppressed, at
any fill (the model's reading, against R146's example: log entry 26), and a GUARDED EVENT record discarded; a record not
shed is admitted at the tail below its limit, 496 for HIT and EVENT records and 512 for test records, and at its limit
is dropped, counted by its kind, with RECORD-LOSS raised. An admission that leaves dense mode as it is does no more; one
that finds it off with the fill then at or above the high mark enters it (R148): dense mode on, the cut by the active
timing, the pass-through buffer emptied by an IMMEDIATE cut and its frames kept by one AT-SETTLE, none of them counted
as lost, the marks of source DENSE-ENTRY set, DENSE-ENTERED pending. -/
def Obligations.RecordOffers : Prop :=
  (∀ (r : Record) (s : State), s.faults.halted = true → offerRecord r s = arbitrate s) ∧
  (∀ (r : HitRecord) (s : State), s.faults.halted = false → s.outlet.dense = true →
    offerRecord (.hit r) s = arbitrate (onCounters (fun k => { k with suppressed := countOn k.suppressed }) s)) ∧
  (∀ (r : EventRecord) (s : State), s.faults.halted = false → s.outlet.dense = true → r.cls = .guarded →
    offerRecord (.event r) s = arbitrate s) ∧
  (∀ (r : Record) (s : State), s.faults.halted = false →
    (∀ x, r = .hit x → s.outlet.dense = false) →
    (∀ x, r = .event x → s.outlet.dense = true → x.cls = .normal) →
    let limit := if isDataRecord r then 496 else 512
    let admitted : State := { s with outlet := { s.outlet with records := s.outlet.records ++ [r] } }
    (limit ≤ s.outlet.records.length →
      offerRecord r s = raise .recordLoss (onCounters (fun k =>
        match r with
        | .hit _ => { k with hitsDropped := countOn k.hitsDropped }
        | .event _ => { k with eventsDropped := countOn k.eventsDropped }
        | _ => { k with testDropped := countOn k.testDropped }) s)) ∧
    (s.outlet.records.length < limit →
      s.outlet.dense = true ∨ s.outlet.records.length + 1 < s.active.test.high →
      offerRecord r s = arbitrate admitted) ∧
    (s.outlet.records.length < limit → s.outlet.dense = false → s.active.test.high ≤ s.outlet.records.length + 1 →
      (offerRecord r s).outlet.dense = true ∧
      (s.active.test.cutTiming = .immediate →
        (offerRecord r s).outlet.cut = .cut ∧ (offerRecord r s).outlet.passBuffer = []) ∧
      (s.active.test.cutTiming = .atSettle →
        (offerRecord r s).outlet.cut = .pending ∧ (offerRecord r s).outlet.passBuffer = s.outlet.passBuffer) ∧
      (offerRecord r s).controller.counters.passLost = s.controller.counters.passLost ∧
      ((offerRecord r s).controller.mark0 =
        (s.controller.mark0 || s.active.test.mark0.source == .denseEntry)) ∧
      ((offerRecord r s).controller.mark1 =
        (s.controller.mark1 || s.active.test.mark1.source == .denseEntry)) ∧
      (offerRecord r s).faults.pendingSet.has .denseEntered = true ∧
      recordTrail admitted.outlet <+: recordTrail (offerRecord r s).outlet))

/-- Raising a condition (R167): nothing when it is pending; otherwise it becomes pending, and, when the active report mask
reports it, its CONDITION record is offered, the seen flag following the admission. -/
def Obligations.ConditionRaise : Prop :=
  (∀ (c : Condition) (s : State), s.faults.pendingSet.has c = true → raise c s = arbitrate s) ∧
  (∀ (c : Condition) (s : State), s.faults.pendingSet.has c = false →
    let pended : State := { s with faults := { s.faults with pendingSet := s.faults.pendingSet.insert c } }
    let r : Record := .condition
      { condition := c, phase := s.controller.phase, settled := s.tracker.settled,
        pendingSet := s.faults.pendingSet.insert c }
    (s.active.test.reportMask.has c = false → raise c s = arbitrate pended) ∧
    (s.active.test.reportMask.has c = true → s.faults.halted = false → s.outlet.records.length < 512 →
      raise c s = (offerRecord r pended).onFaults fun u => { u with seenSet := u.seenSet.insert c }) ∧
    (s.active.test.reportMask.has c = true → (s.faults.halted = true ∨ 512 ≤ s.outlet.records.length) →
      raise c s = offerRecord r pended))

/-! ## Faults and HALTED -/

/-- A frame with a wrong frame check makes the fault FRAME-CHECK, and one whose payload does not meet its kind, or whose kind
is unknown, FRAME-FORM, both with the kind byte as selector and with no other effect; for every kind of frame, outside
HALTED (R2, R110, R153, R162, R170). The payload lengths of the management frames are R172's: a WRITE-TABLE payload holds 4
bytes and the count entries of the table its table byte names, 17, 7, 2 or 24 bytes each, and when that byte names no table
any length of at least 4 will do. -/
def Obligations.FrameErrorsAreReported : Prop :=
  (∀ (c : Instr) (k : Byte) (f : Frame) (s : State), commandFrame c = some (k, f) → s.faults.halted = false →
    (checkOk k f = false → exec c s = .next (reportFault .frameCheck (some k.toNat) s)) ∧
    (checkOk k f = true → payloadFits c = false → exec c s = .next (reportFault .frameForm (some k.toNat) s))) ∧
  (∀ p : List Byte,
    let count := fieldAt p 3 1
    (mgmtLengthOk .writeTable p = true ↔
      4 ≤ p.length ∧ (fieldAt p 1 1 = 0 → p.length = 4 + count * 17) ∧ (fieldAt p 1 1 = 1 → p.length = 4 + count * 7) ∧
      (fieldAt p 1 1 = 2 → p.length = 4 + count * 2) ∧ (fieldAt p 1 1 = 3 → p.length = 4 + count * 24)) ∧
    (∀ k ∈ [MgmtKind.identify, .readState, .dropOrders, .resetLink], mgmtLengthOk k p = true ↔ p.length = 1) ∧
    (mgmtLengthOk .setMark p = true ↔ p.length = 2) ∧
    (∀ k ∈ [MgmtKind.order, .clearConditions], mgmtLengthOk k p = true ↔ p.length = 3) ∧
    (mgmtLengthOk .readTable p = true ↔ p.length = 5))

/-- A fault report outside HALTED acts on what the fault slot holds: it fills an empty slot, becomes the second code of a
single fault, or sets the halted flag and class ABORT of a double fault and halts the part (R164). -/
def Obligations.FaultReportActsOnTheSlot : Prop :=
  ∀ (code : FaultCode) (selector : Option Nat) (s : State), s.faults.halted = false →
    (s.outlet.faultSlot = none →
      let first : FaultRecord :=
        { code := code
          cls := if code = .tickGap ∨ code = .laneLag ∨ code = .modeSkip then .trap else .fault
          selector := selector, settleTick := s.tracker.last, second := none, secondSelector := none, halted := false }
      reportFault code selector s = arbitrate { s with outlet := { s.outlet with faultSlot := some first } }) ∧
    (∀ r, s.outlet.faultSlot = some r → r.second = none →
      let double : FaultRecord := { r with second := some code, secondSelector := selector }
      reportFault code selector s = { s with outlet := { s.outlet with faultSlot := some double } }) ∧
    (∀ r, s.outlet.faultSlot = some r → r.second ≠ none →
      (reportFault code selector s).faults.halted = true ∧
      ((reportFault code selector s).outlet.faultSlot = some { r with halted := true, cls := .abort } ∨
       (reportFault code selector s).outlet.sending = some (.fault { r with halted := true, cls := .abort })))

/-- What the third fault leaves, for every command whose frame the inlet turns away (UNKNOWN_KIND among them): the HALTED
values of every block (R165; R15, R36, R78, R91, R126, R151, R161, R166). The answers to the queued orders stand before
those to the frames that waited for the responder: the model's choice, log entry 6. -/
def Obligations.ThirdFaultHaltsThePart : Prop :=
  ∀ (c : Instr) (k : Byte) (f : Frame) (s : State) (r : FaultRecord), commandFrame c = some (k, f) →
    checkOk k f = false ∨ payloadFits c = false →
    s.faults.halted = false → s.outlet.faultSlot = some r → r.second ≠ none →
    ∃ t, exec c s = .next t ∧
      t.faults = { s.faults with halted := true } ∧
      (∀ k' : Card, t.tracker.expected[k'] = none ∧ t.tracker.lag[k'] = false) ∧
      t.tracker.last = none ∧ t.tracker.settled = none ∧ t.tracker.passInProgress = false ∧ t.tracker.waiting = none ∧
      (∀ d : Chan, t.units[d] = { serial := s.units[d].serial, ctx := .dark, lane := [] }) ∧
      t.assembler.arrivals = [] ∧ (∀ i : Fin 8, t.assembler.slots[i] = none) ∧
      t.assembler.eventNumber = s.assembler.eventNumber ∧
      t.controller = { s.controller with phase := .idle, mutedFrom := none, queue := [], stalled := false,
                                         phaseEvents := 0, ramp := none, hold := none } ∧
      t.monitor = s.monitor ∧ t.staged = s.staged ∧ t.active = s.active ∧
      t.responder.waiting = [] ∧ t.responder.inHand = s.responder.inHand ∧
      t.outlet.records = [] ∧ t.outlet.passBuffer = [] ∧ t.outlet.dense = s.outlet.dense ∧ t.outlet.cut = s.outlet.cut ∧
      answerTrail t.outlet = answerTrail s.outlet ++
        s.controller.queue.map (fun q => { tag := q.tag, kind := .order, code := .cancelled, data := .none }) ++
        s.responder.waiting.map (fun m => { tag := m.tag, kind := m.kind, code := .cancelled, data := .none }) ∧
      t.ready = s.ready ∧ t.pending = s.pending

/-! ## Samples and the tick tracker -/

/-- In IDLE the tracker checks nothing: a SAMPLE frame is only offered to pass-through, and a SETTLE frame is offered and
reported to the outlet as taken (R5); the report leaves dense mode at or below the low mark, and otherwise begins a pending
cut (R150). -/
def Obligations.FramesInIdle : Prop :=
  (∀ (f : Frame) (x : SampleFrame) (s : State), FramePasses kindSample f s → sampleOf f.payload = some x →
    s.controller.phase = .idle → exec (.sample f) s = .next (offerSample f x.card s)) ∧
  (∀ (f : Frame) (s : State), FramePasses kindSettle f s → f.payload.length = 6 → s.controller.phase = .idle →
    exec (.settle f) s = .next (settleTaken (offerPass { kind := kindSettle, frame := f } s))) ∧
  (∀ s : State, s.outlet.dense = false → settleTaken s = s) ∧
  (∀ s : State, s.outlet.dense = true → s.outlet.records.length ≤ s.active.test.low →
    settleTaken s = { s with outlet := { s.outlet with dense := false, cut := .none } }) ∧
  (∀ s : State, s.outlet.dense = true → s.active.test.low < s.outlet.records.length →
    settleTaken s = { s with outlet := { s.outlet with cut :=
      if s.outlet.cut = .pending then .cut else s.outlet.cut } })

/-- Outside IDLE a SAMPLE frame whose ticks are all below B, or that starts below its card's expected tick, or below B when
that is absent, makes the fault TICK-OVERLAP; a SETTLE frame whose tick is not above B, or that finds a frame waiting, makes
SETTLE-DISORDER; nothing else changes but the pass-through offer. A SETTLE frame that finds a pass and no frame waiting
becomes the waiting frame (R6, R7, R10, R14). -/
def Obligations.DisorderedFramesTurnedAway : Prop :=
  (∀ (f : Frame) (x : SampleFrame) (s : State), FramePasses kindSample f s → sampleOf f.payload = some x →
    s.controller.phase ≠ .idle →
    ((∃ b, s.tracker.last = some b ∧ x.start + x.sets.length ≤ b) ∨
     (∃ e, s.tracker.expected[x.card] = some e ∧ x.start < e) ∨
     (∃ b, s.tracker.expected[x.card] = none ∧ s.tracker.last = some b ∧ x.start < b)) →
    exec (.sample f) s = .next (reportFault .tickOverlap (some x.card.val) (offerSample f x.card s))) ∧
  (∀ (f : Frame) (s : State), FramePasses kindSettle f s → f.payload.length = 6 → s.controller.phase ≠ .idle →
    let offered := offerPass { kind := kindSettle, frame := f } s
    (s.tracker.passInProgress = false → (∃ b, s.tracker.last = some b ∧ beNat f.payload ≤ b) →
      exec (.settle f) s = .next (reportFault .settleDisorder none offered)) ∧
    (s.tracker.passInProgress = true → s.tracker.waiting ≠ none →
      exec (.settle f) s = .next (reportFault .settleDisorder none offered)) ∧
    (s.tracker.passInProgress = true → s.tracker.waiting = none →
      exec (.settle f) s = .next
        { offered with tracker := { offered.tracker with waiting := some (beNat f.payload) } }))

/-- Outside IDLE a SAMPLE frame with a tick at or above B that starts at its card's expected tick, or at or above B (or
anywhere when B is absent) when that is absent, is taken: the expected tick becomes start + n, the lag flag is cleared,
and the sample sets are handed to the card's units in tick order (R7, R9). One that starts above the expected tick is a
gap: first the truncations on the card, then the tracker, then TICK-GAP with the card as selector, and then, unless the
report halted the part, the samples (R8). The card's units first take what they still hold of earlier frames (log entry
4). Lane l of sample set j is the sample of channel 8k + l at tick start + j, read at offset 8 + 16j + 2l (R1, R9,
R172). A unit with nothing left to take takes the sample at once, unless it is one that a step of its own takes (it
completes a quiet run, stands at the length limit, or is the first at a readiness tick); that one and those behind it
stay in the unit's lane (log entry 4). DARK, and REARM below the readiness tick, ignore a sample (R18, R31). That lane 0
goes first when a set is handed, and when a card's units are drained or truncated, is the model's choice (log entry 11). -/
def Obligations.SampleFrameTaken : Prop :=
  (∀ (f : Frame) (x : SampleFrame) (s : State), FramePasses kindSample f s → sampleOf f.payload = some x →
     s.controller.phase ≠ .idle → (∀ b, s.tracker.last = some b → b < x.start + x.sets.length) →
     (s.tracker.expected[x.card] = some x.start ∨
      (s.tracker.expected[x.card] = none ∧ ∀ b, s.tracker.last = some b → b ≤ x.start)) →
     let drained := drainCard x.card (offerSample f x.card s)
     exec (.sample f) s = .next (handSets x.card x.start x.sets
       { drained with tracker :=
         { drained.tracker with
           expected := drained.tracker.expected.set x.card (some (x.start + x.sets.length))
           lag := drained.tracker.lag.set x.card false } })) ∧
  (∀ (f : Frame) (x : SampleFrame) (s : State) (e : Tick), FramePasses kindSample f s → sampleOf f.payload = some x →
     s.controller.phase ≠ .idle → (∀ b, s.tracker.last = some b → b < x.start + x.sets.length) →
     s.tracker.expected[x.card] = some e → e < x.start →
     let truncated := truncateCard x.card (drainCard x.card (offerSample f x.card s))
     let reported := reportFault .tickGap (some x.card.val)
       { truncated with tracker :=
         { truncated.tracker with
           expected := truncated.tracker.expected.set x.card (some (x.start + x.sets.length))
           lag := truncated.tracker.lag.set x.card false } }
     exec (.sample f) s = .next
       (if reported.faults.halted then reported else handSets x.card x.start x.sets reported)) ∧
  (∀ (p : List Byte) (x : SampleFrame), sampleOf p = some x →
     x.card.val = fieldAt p 0 1 ∧ x.start = fieldAt p 1 6 ∧ x.sets.length = fieldAt p 7 1 ∧
     ∀ (j : Nat) (l : Fin 8), j < x.sets.length →
       let v := fieldAt p (8 + 16 * j + 2 * l.val) 2
       (x.sets[j]?.bind fun set => set[l.val]?) = some (if v < 32768 then (v : Int) else (v : Int) - 65536)) ∧
  (∀ (k : Card) (l : Fin 8), (laneChan k l).val = 8 * k.val + l.val) ∧
  (∀ (k : Card) (t : Tick) (s : State), handSets k t [] s = s) ∧
  (∀ (k : Card) (t : Tick) (set : List Int) (sets : List (List Int)) (s : State),
     handSets k t (set :: sets) s = handSets k (t + 1) sets
       ((List.finRange 8).foldl (fun u l => handSample (laneChan k l) { tick := t, value := set.getD l.val 0 } u) s)) ∧
  (∀ (k : Card) (s : State),
     drainCard k s = (List.finRange 8).foldl (fun u l => drainUnit (laneChan k l) u) s ∧
     truncateCard k s = (List.finRange 8).foldl (fun u l => truncateUnit (laneChan k l) u) s) ∧
  (∀ (c : Chan) (s : State),
     (s.units[c].lane = [] → drainUnit c s = s) ∧
     (∀ x xs, s.units[c].lane = x :: xs →
       drainUnit c s = drainUnit c (takeSample c x (s.onUnit c fun u => { u with lane := xs })))) ∧
  (∀ (c : Chan) (x : LaneSample) (s : State),
     handSample c x s = runUnit c (s.onUnit c fun u => { u with lane := u.lane ++ [x] }) ∧
     (s.units[c].lane = [] → sampleEvent s.units[c].ctx x = .ordinary → handSample c x s = takeSample c x s) ∧
     (s.units[c].lane = [] → sampleEvent s.units[c].ctx x ≠ .ordinary →
       handSample c x s = s.onUnit c fun u => { u with lane := [x] }) ∧
     (∀ y ys, s.units[c].lane = y :: ys → sampleEvent s.units[c].ctx y ≠ .ordinary →
       handSample c x s = s.onUnit c fun u => { u with lane := y :: ys ++ [x] })) ∧
  (∀ (c : Chan) (s : State),
     (s.units[c].lane = [] → runUnit c s = s) ∧
     (∀ x xs, s.units[c].lane = x :: xs → sampleEvent s.units[c].ctx x ≠ .ordinary → runUnit c s = s) ∧
     (∀ x xs, s.units[c].lane = x :: xs → sampleEvent s.units[c].ctx x = .ordinary →
       runUnit c s = runUnit c (takeSample c x (s.onUnit c fun u => { u with lane := xs })))) ∧
  (∀ (ctx : Context) (x : LaneSample), sampleEvent ctx x ≠ .ordinary ↔
     (∃ h, ctx = .openHit h ∧
       (h.snap.quiet ≤ (if h.snap.threshold ≤ x.value.natAbs then 0 else h.quietRun + 1) ∨
        h.raw + h.snap.limit ≤ x.tick + 1)) ∨
     ∃ ready, ctx = .rearm ready ∧ ready ≤ x.tick) ∧
  (∀ (c : Chan) (x : LaneSample) (s : State),
     (s.units[c].ctx = .dark → takeSample c x s = s) ∧
     (∀ ready, s.units[c].ctx = .rearm ready → x.tick < ready → takeSample c x s = s))

/-- A SETTLE frame taken outside IDLE, no pass being in progress: the units hand over what earlier frames produced, B becomes
its tick, the taking is reported to the outlet, the lag check is made, and unless it halted the part S becomes the larger of
its value and B − dmax (0 for a negative difference) and the pass begins (R10, R12, R13). dmax is the largest delay among
the active LISTEN and GUARD entries, 0 if there is none. That every lane is drained before B is recorded and before the
taking is reported is the model's choice (log entry 4), and so is the order of the drains, channel 0 first (log entry 11). -/
def Obligations.SettleFrameTaken : Prop :=
  (∀ (f : Frame) (s : State), FramePasses kindSettle f s → f.payload.length = 6 → s.controller.phase ≠ .idle →
    s.tracker.passInProgress = false → (∀ b, s.tracker.last = some b → b < beNat f.payload) →
    let b := beNat f.payload
    let drained := drainAll (offerPass { kind := kindSettle, frame := f } s)
    let checked := lagCheck b (settleTaken { drained with tracker := { drained.tracker with last := some b } })
    exec (.settle f) s = .next
      (if checked.faults.halted then checked
       else { checked with tracker :=
        { checked.tracker with
          settled := some (max (checked.tracker.settled.getD 0) (b - dmaxOf checked.active.channels))
          passInProgress := true } })) ∧
  (∀ s : State, drainAll s = (List.finRange 32).foldl (fun u c => drainUnit c u) s) ∧
  (∀ channels : Vector ChannelEntry 32,
    (∀ c : Chan, modeListens channels[c].mode = true → channels[c].delay ≤ dmaxOf channels) ∧
    (dmaxOf channels = 0 ∨
      ∃ c : Chan, modeListens channels[c].mode = true ∧ channels[c].delay = dmaxOf channels))

/-- The lag check (R11): the cards in order 0 to 3, each lagging one (expected tick present and below B) with the truncations
of its eight units, its expected tick set to B and its lag flag, and the report LANE-LAG with the card as selector, until a
report halts the part. Unless one does, every lagging card comes out with expected tick B, its lag flag set, and its OPEN
contexts READY, and every other card and context as it was; with no lagging card nothing changes. The order of the
cards is R11's; that lane 0 is truncated first within a card is the model's choice (log entry 11). -/
def Obligations.LagCheckMarksLaggingCards : Prop :=
  (∀ (b : Tick) (s : State), (lagCheck b s).faults.halted = false →
    ∀ k : Card,
      ((∃ e, s.tracker.expected[k] = some e ∧ e < b) →
        (lagCheck b s).tracker.expected[k] = some b ∧ (lagCheck b s).tracker.lag[k] = true) ∧
      ((∀ e, s.tracker.expected[k] = some e → b ≤ e) →
        (lagCheck b s).tracker.expected[k] = s.tracker.expected[k] ∧
        (lagCheck b s).tracker.lag[k] = s.tracker.lag[k])) ∧
  (∀ (b : Tick) (s : State), (∀ (k : Card) (e : Tick), s.tracker.expected[k] = some e → b ≤ e) → lagCheck b s = s) ∧
  (∀ (b : Tick) (s : State),
    lagCheck b s = [(0 : Card), 1, 2, 3].foldl (fun t k =>
      match t.tracker.expected[k] with
      | none => t
      | some e =>
        if t.faults.halted = false ∧ e < b then
          let truncated := (List.finRange 8).foldl (fun u l => truncateUnit (laneChan k l) u) t
          reportFault .laneLag (some k.val) { truncated with tracker :=
            { truncated.tracker with
              expected := truncated.tracker.expected.set k (some b)
              lag := truncated.tracker.lag.set k true } }
        else t) s) ∧
  (∀ (b : Tick) (s : State), (lagCheck b s).faults.halted = false → ∀ (k : Card) (l : Fin 8),
    let c := laneChan k l
    ((∃ e, s.tracker.expected[k] = some e ∧ e < b) → (∃ h, s.units[c].ctx = .openHit h) →
      (lagCheck b s).units[c] = { s.units[c] with ctx := .ready }) ∧
    ((∀ e, s.tracker.expected[k] = some e → b ≤ e) ∨ (∀ h, s.units[c].ctx ≠ .openHit h) →
      (lagCheck b s).units[c] = s.units[c]))

/-! ## Hits -/

/-- In READY a sample starts a hit exactly when the active mode is LISTEN or GUARD and its magnitude is at least the active
threshold; the start copies the snapshot, records the ticks, increments the serial, hands the arrival and keeps the outcome
it gets, takes the sample as the hit's first, hands a clip notice when it is clipped, and ends the hit LONG at once when L
is at most 1. A sample that starts none changes nothing (R18, R19, R22, R23). -/
def Obligations.HitStart : Prop :=
  (∀ (c : Chan) (x : LaneSample) (s : State), s.units[c].ctx = .ready →
    (s.active.channels[c].mode = .off ∨ x.value.natAbs < s.active.channels[c].threshold) → takeSample c x s = s) ∧
  (∀ (c : Chan) (x : LaneSample) (s : State), s.units[c].ctx = .ready → s.active.channels[c].mode ≠ .off →
    s.active.channels[c].threshold ≤ x.value.natAbs →
    let e := s.active.channels[c]
    let serial := (s.units[c].serial + 1) % 65536
    let x' : Arrival := { chan := c, serial := serial, tick := x.tick - e.delay, mode := e.mode, clip := false,
                          ended := false, peakDb := none }
    let isClipped := decide (x.value = 32767 ∨ x.value = -32768)
    let h : Hit :=
      { snap := { threshold := e.threshold, quiet := e.quiet, peakWindow := e.peakWindow, limit := e.limit,
                  rearm := e.rearm, shift := e.shift, delay := e.delay, mode := e.mode }
        raw := x.tick, comp := x.tick - e.delay, listing := listingOf (x.tick - e.delay) s, lastSupra := x.tick,
        above := true, crossings := 1, peak := x.value.natAbs, peakTick := x.tick, clip := isClipped,
        energy := x.value.natAbs, quietRun := 0, quietSum := 0 }
    let listed := (takeArrival x' s).onUnit c fun u => { u with serial := serial, ctx := .openHit h }
    let noticed := if isClipped then clipNotice c serial listed else listed
    (1 < e.limit → takeSample c x s = noticed) ∧
    (e.limit ≤ 1 → takeSample c x s = (endSequence c h .long s.controller.phase false noticed).onUnit c
      fun u => { u with ctx := .rearm (x.tick + e.rearm + 1) }))

/-- A sample of an OPEN hit that ends nothing: the crossings (R25), the peak over the peak window (R26), the clip flag with
its notice at the first clipped sample (R27), the energy accumulator, quiet run and quiet sum (R28), and nothing else. -/
def Obligations.OpenHitBookkeeping : Prop :=
  ∀ (c : Chan) (x : LaneSample) (h : Hit) (s : State), s.units[c].ctx = .openHit h →
    let m := x.value.natAbs
    let isClipped := decide (x.value = 32767 ∨ x.value = -32768)
    let higher := decide (x.tick < h.raw + h.snap.peakWindow ∧ h.peak < m)
    let supra : Hit :=
      { h with
        crossings := if h.above then h.crossings else if h.crossings < 65535 then h.crossings + 1 else h.crossings
        above := true
        peak := if higher then m else h.peak
        peakTick := if higher then x.tick else h.peakTick
        clip := h.clip || isClipped
        energy := h.energy + h.quietSum + m, quietRun := 0, quietSum := 0, lastSupra := x.tick }
    let below : Hit :=
      { h with
        above := false
        peak := if higher then m else h.peak
        peakTick := if higher then x.tick else h.peakTick
        clip := h.clip || isClipped
        quietRun := h.quietRun + 1, quietSum := h.quietSum + m }
    let noticed := if isClipped && !h.clip then clipNotice c s.units[c].serial s else s
    x.tick + 1 < h.raw + h.snap.limit →
    (h.snap.threshold ≤ m → 0 < h.snap.quiet →
      takeSample c x s = noticed.onUnit c fun u => { u with ctx := .openHit supra }) ∧
    (m < h.snap.threshold → h.quietRun + 1 < h.snap.quiet →
      takeSample c x s = noticed.onUnit c fun u => { u with ctx := .openHit below })

/-- The end sequence (R37): the end notice with the peak dB, the hits counter, and the HIT record with its features and
stamps (R39 to R45, R47 to R50). -/
def Obligations.EndSequenceOffersHitRecord : Prop :=
  ∀ (c : Chan) (h : Hit) (k : HitEnd) (ph : Phase) (s : State),
    let db := min ((rawStep s.active.levels h.peak : Int) + s.active.channels[c].gain).toNat 127
    let last := if k = .long then h.raw + h.snap.limit - 1 else h.lastSupra
    let sum := if k = .long then h.energy + h.quietSum else h.energy
    let noticed := endNotice { chan := c, serial := s.units[c].serial, clip := h.clip, peakDb := db } s
    let counted := onCounters (fun k => { k with hits := countOn k.hits }) noticed
    endSequence c h k ph false s = offerRecord (.hit
      { chan := c, serial := s.units[c].serial, raw := h.raw, comp := h.comp, endTick := last,
        duration := last + 1 - h.raw, rise := h.peakTick - h.raw, peak := h.peak, peakDb := db,
        crossings := h.crossings, energy := min (sum / 2 ^ h.snap.shift) 4294967295, shift := h.snap.shift,
        phase := ph, pressure := s.monitor.pressure, clip := h.clip, long := decide (k = .long),
        truncated := decide (k = .truncated), late := decide (h.listing = .late),
        unlisted := decide (h.listing = .unlisted), guarded := decide (h.snap.mode = .guard) }) counted

/-- The peak dB: the raw step is the largest index whose level is at most the peak magnitude, 0 when there is none (R44);
the peak dB is the raw step plus the gain offset, clamped to 0..127 (R45). -/
def Obligations.PeakDbRule : Prop :=
  (∀ (levels : Vector Nat 100) (peak : Nat) (i : Fin 100), levels[i] ≤ peak →
    i.val ≤ rawStep levels peak ∧ ∃ j : Fin 100, j.val = rawStep levels peak ∧ levels[j] ≤ peak) ∧
  (∀ (levels : Vector Nat 100) (peak : Nat), (∀ i : Fin 100, peak < levels[i]) → rawStep levels peak = 0) ∧
  (∀ (c : Chan) (h : Hit) (s : State),
    let sum := (rawStep s.active.levels h.peak : Int) + s.active.channels[c].gain
    (sum < 0 → peakDbOf c h s = 0) ∧ (0 ≤ sum → sum ≤ 127 → (peakDbOf c h s : Int) = sum) ∧
    (127 < sum → peakDbOf c h s = 127))

/-- NORMAL_END and LONG_END, when the oldest sample that channel `c`'s unit holds is the one that ends its hit: the sample is
taken with its bookkeeping, the end sequence runs, and the context enters REARM with readiness tick detection tick + R + 1
(R29, R30, R31, R37). REARM_END, when that sample is the first at or above the readiness tick: the context is READY and the
sample is handled as in READY, so that it may start a hit (R31, R22). The unit then goes on with the samples behind it (log
entry 4). -/
def Obligations.UnitEventSteps : Prop :=
  (∀ (c : Chan) (x : LaneSample) (xs : List LaneSample) (h : Hit) (s : State),
     s.units[c].lane = x :: xs → s.units[c].ctx = .openHit h →
     let taken := s.onUnit c fun u => { u with lane := xs }
     let h' := trackHit h x
     let rearm (t : State) := t.onUnit c fun u => { u with ctx := .rearm (x.tick + h.snap.rearm + 1) }
     (x.value.natAbs < h.snap.threshold → h.snap.threshold ≤ 32767 → h.snap.quiet ≤ h.quietRun + 1 →
       exec (.normalEnd c) s =
         .next (runUnit c (rearm (endSequence c h' .normal s.controller.phase false taken)))) ∧
     ((x.value.natAbs < h.snap.threshold → h.quietRun + 1 < h.snap.quiet) →
       (h.snap.threshold ≤ x.value.natAbs → 0 < h.snap.quiet) → h.raw + h.snap.limit ≤ x.tick + 1 →
       exec (.longEnd c) s =
         .next (runUnit c (rearm (endSequence c h' .long s.controller.phase false
           (if h'.clip && !h.clip then clipNotice c s.units[c].serial taken else taken)))))) ∧
  (∀ (c : Chan) (x : LaneSample) (xs : List LaneSample) (ready : Tick) (s : State),
     s.units[c].lane = x :: xs → s.units[c].ctx = .rearm ready → ready ≤ x.tick →
     let again := s.onUnit c fun u => { u with lane := xs, ctx := .ready }
     (s.active.channels[c].mode = .off ∨ x.value.natAbs < s.active.channels[c].threshold →
       exec (.rearmEnd c) s = .next (runUnit c again)) ∧
     (s.active.channels[c].mode ≠ .off → s.active.channels[c].threshold ≤ x.value.natAbs →
       exec (.rearmEnd c) s = .next (runUnit c (startHit c x again))))

/-- A gap or a lag ends an OPEN hit TRUNCATED and leaves the context READY (R32, R33); a stop directive ends it TRUNCATED,
stamped with the phase being left, and leaves every context DARK (R21, R34, R35, R50). A truncated hit ends at its last
supra-threshold tick, without its quiet sum (R32, R39). -/
def Obligations.TruncationDirectives : Prop :=
  (∀ (c : Chan) (h : Hit) (s : State), s.units[c].ctx = .openHit h →
    truncateUnit c s =
      (endSequence c h .truncated s.controller.phase false s).onUnit c fun u => { u with ctx := .ready }) ∧
  (∀ (c : Chan) (s : State), (∀ h, s.units[c].ctx ≠ .openHit h) → truncateUnit c s = s) ∧
  (∀ (c : Chan) (h : Hit) (ph : Phase) (s : State), s.units[c].ctx = .openHit h →
    stopUnit ph false c s =
      (endSequence c h .truncated ph false s).onUnit c fun u => { u with ctx := .dark, lane := [] }) ∧
  (∀ (c : Chan) (ph : Phase) (b : Bool) (s : State), (∀ h, s.units[c].ctx ≠ .openHit h) →
    stopUnit ph b c s = s.onUnit c fun u => { u with ctx := .dark, lane := [] }) ∧
  (∀ h : Hit, endTick h .truncated = h.lastSupra ∧ magnitudeSum h .truncated = h.energy)

/-! ## The event assembler -/

/-- The listing outcome and its effect (R55, R56): LATE below S, UNLISTED at 64 entries with ARRIVAL-OVERFLOW, each counted
as unassociated; otherwise the entry joins the list at the place its tick and channel give it, and the entries keep their
order. An end notice goes to the pair's entry, or else to the pair's member (R58), and so does a clip notice, which sets the
clip flag there (R57); nothing else changes. -/
def Obligations.ArrivalsAndNotices : Prop :=
  (∀ (x : Arrival) (s : State),
    let counted := onCounters (fun k => { k with unassociated := countOn k.unassociated }) s
    ((∃ b, s.tracker.settled = some b ∧ x.tick < b) →
      listingOf x.tick s = .late ∧ takeArrival x s = counted) ∧
    ((∀ b, s.tracker.settled = some b → b ≤ x.tick) → 64 ≤ s.assembler.arrivals.length →
      listingOf x.tick s = .unlisted ∧ takeArrival x s = raise .arrivalOverflow counted) ∧
    ((∀ b, s.tracker.settled = some b → b ≤ x.tick) → s.assembler.arrivals.length < 64 →
      listingOf x.tick s = .listed ∧
      ∃ front back, s.assembler.arrivals = front ++ back ∧
        takeArrival x s = { s with assembler := { s.assembler with arrivals := front ++ x :: back } } ∧
        (ArrivalsSound s → (∀ y ∈ front, arrivalLe y x) ∧ ∀ y ∈ back, arrivalLe x y))) ∧
  (∀ (n : EndNotice) (s : State),
    let mark (x : Arrival) : Arrival :=
      if x.chan = n.chan ∧ x.serial = n.serial then
        { x with ended := true, peakDb := some n.peakDb, clip := x.clip || n.clip }
      else x
    ((∃ x ∈ s.assembler.arrivals, x.chan = n.chan ∧ x.serial = n.serial) →
      endNotice n s = { s with assembler := { s.assembler with arrivals := s.assembler.arrivals.map mark } }) ∧
    ((∀ x ∈ s.assembler.arrivals, ¬(x.chan = n.chan ∧ x.serial = n.serial)) →
      (endNotice n s).assembler.arrivals = s.assembler.arrivals ∧
      ∀ i : Fin 8, (endNotice n s).assembler.slots[i] =
        s.assembler.slots[i].map fun e => { e with members := e.members.map mark })) ∧
  (∀ (c : Chan) (serial : Nat) (s : State),
    let mark (x : Arrival) : Arrival := if x.chan = c ∧ x.serial = serial then { x with clip := true } else x
    ((∃ x ∈ s.assembler.arrivals, x.chan = c ∧ x.serial = serial) →
      clipNotice c serial s = { s with assembler := { s.assembler with arrivals := s.assembler.arrivals.map mark } }) ∧
    ((∀ x ∈ s.assembler.arrivals, ¬(x.chan = c ∧ x.serial = serial)) →
      ∃ slots : Vector (Option Event) 8,
        clipNotice c serial s = { s with assembler := { s.assembler with slots := slots } } ∧
        ∀ i : Fin 8, slots[i] = s.assembler.slots[i].map fun e => { e with members := e.members.map mark })) ∧
  (∀ (n : EndNotice) (s : State), (∀ x ∈ s.assembler.arrivals, ¬(x.chan = n.chan ∧ x.serial = n.serial)) →
    endNotice n s = { s with assembler := { s.assembler with slots := (endNotice n s).assembler.slots } })

/-- A taken arrival joins the candidate event with the earliest first tick, the lower slot at equal ticks; with no candidate
it opens an event in the lowest free slot under the next number; with no free slot it is unassociated, with EVENT-OVERFLOW
(R59, R60, R62). -/
def Obligations.ArrivalPlacement : Prop :=
  ∀ (x : Arrival) (s : State),
    let candidate (i : Fin 8) (e : Event) : Prop :=
      s.assembler.slots[i] = some e ∧ e.first ≤ x.tick ∧ x.tick ≤ e.first + e.window ∧
      (∀ m ∈ e.members, m.chan ≠ x.chan) ∧ e.members.length < 8
    (∀ (i : Fin 8) (e : Event), candidate i e →
      (∀ (j : Fin 8) (d : Event), candidate j d → e.first < d.first ∨ (e.first = d.first ∧ i ≤ j)) →
      placeArrival x s = { s with assembler :=
        { s.assembler with slots := s.assembler.slots.set i (some { e with members := e.members ++ [x] }) } }) ∧
    ((∀ (i : Fin 8) (e : Event), ¬candidate i e) →
      (∀ i : Fin 8, s.assembler.slots[i] = none → (∀ j : Fin 8, j < i → s.assembler.slots[j] ≠ none) →
        let number := if s.assembler.eventNumber < 4294967295 then s.assembler.eventNumber + 1 else 1
        let opened : Event :=
          { number := number, first := x.tick, window := s.active.test.window, span := s.active.test.span,
            guarded := decide (x.mode = .guard), members := [x] }
        placeArrival x s = { s with assembler :=
          { s.assembler with slots := s.assembler.slots.set i (some opened), eventNumber := number } }) ∧
      ((∀ i : Fin 8, s.assembler.slots[i] ≠ none) →
        placeArrival x s = raise .eventOverflow
          (onCounters (fun k => { k with unassociated := countOn k.unassociated }) s)))

/-- The tests of an open event against the pass's S, in their order (R64), and the EVENT record of its close, with class,
counts, stamps, location and members (R67, R69, R72, R73, R74). -/
def Obligations.EventClose : Prop :=
  (∀ (e : Event) (t : Tick),
    (e.first + e.window < t → (∀ m ∈ e.members, m.ended = true) → closeReasonAt e t = some .complete) ∧
    (¬(e.first + e.window < t ∧ ∀ m ∈ e.members, m.ended = true) → e.first + e.window + e.span < t →
      closeReasonAt e t = some .span) ∧
    (¬(e.first + e.window < t ∧ ∀ m ∈ e.members, m.ended = true) → t ≤ e.first + e.window + e.span →
      closeReasonAt e t = none)) ∧
  (∀ (i : Fin 8) (e : Event) (reason : CloseReason) (s : State),
    let cls : EventClass := if e.guarded then .guarded else .normal
    let clips := (e.members.filter fun m => m.clip).length
    let record : EventRecord :=
      { number := e.number, cls := cls, reason := reason, first := e.first, closeTick := s.tracker.settled.getD 0,
        window := e.window, span := e.span, memberCount := e.members.length, clipped := clips,
        unfinished := (e.members.filter fun m => !m.ended).length, phase := s.controller.phase,
        pressure := s.monitor.pressure, location := if e.guarded then none else locate s.active e.members,
        members := e.members.map fun m =>
          { chan := m.chan, serial := m.serial, tick := m.tick, mode := m.mode, clip := m.clip, unfinished := !m.ended,
            peakDb := if m.ended then m.peakDb else none } }
    let reported := closeReport { number := e.number, cls := cls, first := e.first, clipped := clips }
      (offerRecord (.event record) s)
    closeEvent i e reason s = { reported with assembler :=
      { reported.assembler with slots := reported.assembler.slots.set i none } })

/-- A settle pass places the entries below S, from the front of the list and each before the next (R61, R62), then examines
the slots 0 to 7 and closes each event that is due as it finds it (R64, R65), takes the end notices still on their way (R71,
log entry 7), and goes on with the controller's stage; unless that has halted the part the pass is over, and a waiting SETTLE
frame is handled (R13, R14, R95). After the pass the arrival list holds no entry below its S (R61). -/
def Obligations.PassLeavesNoSettledArrival : Prop :=
  (∀ (s t : State), exec .settlePass s = .next t → s.tracker.passInProgress = true → ArrivalsSound s →
    ∀ x ∈ t.assembler.arrivals, passTick s ≤ x.tick) ∧
  (∀ s : State, s.tracker.passInProgress = true → ArrivalsSound s →
    let placed := (s.assembler.arrivals.filter fun x => decide (x.tick < passTick s)).foldl
      (fun u x => placeArrival x { u with assembler := { u.assembler with arrivals := u.assembler.arrivals.tail } }) s
    let closed := (List.finRange 8).foldl (fun u i =>
      match u.assembler.slots[i] with
      | none => u
      | some e =>
        match closeReasonAt e (passTick s) with
        | none => u
        | some reason => closeEvent i e reason u) placed
    let told := closed.assembler.inFlight.foldl (fun u n => endNotice n u)
      { closed with assembler := { closed.assembler with inFlight := [] } }
    let staged := controllerStage told
    placed.assembler.arrivals = s.assembler.arrivals.filter (fun x => decide (passTick s ≤ x.tick)) ∧
    exec .settlePass s = .next
      (if staged.faults.halted then staged
       else
         match staged.tracker.waiting with
         | none => passOver staged
         | some b => trackSettle b (passOver staged)))

/-! ## Location -/

/-- The locator anchors the pair on the first member and takes the first later member that some valid entry pairs with it,
both channels being LISTEN in the active table, and of the matching entries the lowest; without one the result is zonal
(R80 to R83). -/
def Obligations.LocatorPicksPair : Prop :=
  ∀ (t : Tables) (first : Arrival) (later : List Arrival),
    let pairs (m : Arrival) (i : Fin 16) : Prop :=
      t.channels[first.chan].mode = .listen ∧ t.channels[m.chan].mode = .listen ∧ t.pairs[i].valid = true ∧
      ((t.pairs[i].a = first.chan ∧ t.pairs[i].b = m.chan) ∨ (t.pairs[i].a = m.chan ∧ t.pairs[i].b = first.chan))
    ((∀ m ∈ later, ∀ i, ¬pairs m i) →
      locate t (first :: later) = some { zone := first.chan, located := none }) ∧
    (∀ (front back : List Arrival) (m : Arrival) (i : Fin 16), later = front ++ m :: back →
      (∀ m' ∈ front, ∀ j, ¬pairs m' j) → pairs m i → (∀ j : Fin 16, j < i → ¬pairs m j) →
      locate t (first :: later) = some { zone := first.chan, located := some (locatedBy t first m i) })

/-- The position arithmetic: num = D × 1000 − v × Δt with Δt = t_b − t_a in the entry's orientation; below 0 the position is
0 and above 2 × D × 1000 it is D, both OUTSIDE; within, it is floor(num / 2000), between 0 and D (R84 to R87). -/
def Obligations.PositionArithmetic : Prop :=
  ∀ (t : Tables) (first partner : Arrival) (i : Fin 16),
    let e := t.pairs[i]
    let ta := if e.a = first.chan then first.tick else partner.tick
    let tb := if e.a = first.chan then partner.tick else first.tick
    let num : Int := (e.spacing : Int) * 1000 - (e.velocity : Int) * ((tb : Int) - (ta : Int))
    let l := locatedBy t first partner i
    l.pair = i ∧ l.a = e.a ∧ l.b = e.b ∧ l.spacing = e.spacing ∧ l.position ≤ e.spacing ∧
    (num < 0 → l.position = 0 ∧ l.outside = true) ∧
    (0 ≤ num → num ≤ 2 * (e.spacing : Int) * 1000 →
      2000 * (l.position : Int) ≤ num ∧ num < 2000 * ((l.position : Int) + 1) ∧ l.outside = false) ∧
    (2 * (e.spacing : Int) * 1000 < num → l.position = e.spacing ∧ l.outside = true)

/-! ## Close reports, holds, ramps, rupture -/

/-- The close report of an event that causes no rupture (R122, R123): the events counter, and the guarded counter for a
GUARDED event, which does nothing more; for a NORMAL event the phase event count and the EVENTS-IN-PHASE marks (R106), then
in HOLD the tally, the quiet reference and HOLD-ACTIVE above the limit (R116), and in RAMP the ramp's event count (R119).
That the phase event count holds at its largest value is the model's choice (log entry 21). -/
def Obligations.CloseReportCounts : Prop :=
  ∀ (r : CloseReport) (s : State),
    (rupturePhase s.controller.phase = false ∨ r.clipped < s.active.test.quorum) →
    let n := if s.controller.phaseEvents < 4294967295 then s.controller.phaseEvents + 1 else s.controller.phaseEvents
    let holds (m : MarkSpec) : Bool := decide (m.source = .eventsInPhase ∧ m.parameter ≤ n)
    let counted := onCounters (fun k => { k with events := countOn k.events }) s
    let noted : State := { counted with controller :=
      { counted.controller with
        phaseEvents := n
        mark0 := s.controller.mark0 || holds s.active.test.mark0
        mark1 := s.controller.mark1 || holds s.active.test.mark1 } }
    (r.cls = .guarded →
      closeReport r s = onCounters (fun k => { k with guarded := countOn k.guarded }) counted) ∧
    (r.cls = .normal → s.controller.phase ≠ .hold → s.controller.phase ≠ .ramp → closeReport r s = noted) ∧
    (∀ h : Hold, r.cls = .normal → s.controller.phase = .hold → s.controller.hold = some h →
      let tally := if h.tally < 65535 then h.tally + 1 else h.tally
      let held : State := { noted with controller :=
        { noted.controller with hold := some { entry := h.entry, tally := tally, quietRef := r.first } } }
      closeReport r s = if s.active.test.holdLimit < tally then raise .holdActive held else held) ∧
    (∀ ramp : Ramp, r.cls = .normal → s.controller.phase = .ramp → s.controller.ramp = some ramp →
      let events := if ramp.events < 65535 then ramp.events + 1 else ramp.events
      (ramp.reload = false ∨ ramp.onset ≠ .undecided ∨ events < s.active.test.onsetCount) →
      closeReport r s = { noted with controller :=
        { noted.controller with ramp := some { ramp with events := events } } })

/-- The onset decision (R119, R120, R121): at the NORMAL close report in RAMP that brings an UNDECIDED reload ramp to the
onset count, the onset is DECIDED and the ONSET record is offered, with Pon the current pressure, its ratio to Pref in
thousandths limited to 1000, and the flags. That the phase event count holds at its largest value is the model's choice (log
entry 21). -/
def Obligations.OnsetDecision : Prop :=
  ∀ (r : CloseReport) (ramp : Ramp) (pref : Nat) (s : State),
    r.cls = .normal → r.clipped < s.active.test.quorum → s.controller.phase = .ramp → s.controller.ramp = some ramp →
    ramp.reload = true → ramp.onset = .undecided → ramp.pref = some pref →
    let events := if ramp.events < 65535 then ramp.events + 1 else ramp.events
    s.active.test.onsetCount ≤ events →
    let n := if s.controller.phaseEvents < 4294967295 then s.controller.phaseEvents + 1 else s.controller.phaseEvents
    let holds (m : MarkSpec) : Bool := decide (m.source = .eventsInPhase ∧ m.parameter ≤ n)
    let counted := onCounters (fun k => { k with events := countOn k.events }) s
    let decided : Ramp :=
      { number := ramp.number, reload := true, pref := some pref, events := events, onset := .decided }
    closeReport r s = offerRecord (.onset
      { ramp := ramp.number, outcome := .decided, pref := pref, count := s.active.test.onsetCount, events := events,
        settled := s.tracker.settled.getD 0, deciding := some r.number, pon := s.monitor.pressure,
        ratio := s.monitor.pressure.map fun p => min (p * 1000 / pref) 1000
        above := s.monitor.pressure.any fun p => decide (pref ≤ p)
        stale := s.monitor.stale })
      { counted with controller :=
        { counted.controller with
          phaseEvents := n
          mark0 := s.controller.mark0 || holds s.active.test.mark0
          mark1 := s.controller.mark1 || holds s.active.test.mark1
          ramp := some decided } }

/-- A rupture, the clipped count meeting the quorum in RAMP, HOLD or UNLOAD (R123, R124): the phase is BURST, no ramp or hold
is in progress, every unit is DARK, the rupture flag is set, RUPTURE is pending, every mark of source RUPTURE is set, and
the records already admitted stay in their order ahead of those the rupture offers. In order: the report is counted as one
below the quorum is (R122), the RUPTURE record is offered (R125), RUPTURE raised, the marks set, the ramp or hold left ends,
the ramp with the ONSET record it owes (after RUPTURE: log entry 23), the PHASE record is offered, and the units are stopped,
stamped with the phase left; an OPEN hit's end notice is applied at once or is on its way to the end of the assembler's
stage, as the free value says, its HIT record being the same (R71, log entry 7). The model's choices in it: channel 0 is
stopped first, and so the order of the HIT records among the channels (log entry 11), and every one of these records is
offered within the rupture, behind PHASE and ahead of the records of later closes, even when its end notice is still on
its way (log entry 28). -/
def Obligations.RuptureEntersBurst : Prop :=
  (∀ (r : CloseReport) (s : State), rupturePhase s.controller.phase = true → s.active.test.quorum ≤ r.clipped →
    s.faults.halted = false → s.controller.mutedFrom = none →
    (s.controller.phase ≠ .hold → s.controller.hold = none) → (s.controller.phase ≠ .ramp → s.controller.ramp = none) →
    let t := closeReport r s
    t.controller.phase = .burst ∧ t.controller.phaseEvents = 0 ∧ t.controller.ruptured = true ∧
    t.controller.ramp = none ∧ t.controller.hold = none ∧ t.controller.queue = s.controller.queue ∧
    (∀ c : Chan, t.units[c] = { serial := s.units[c].serial, ctx := .dark, lane := [] }) ∧
    t.faults.pendingSet.has .rupture = true ∧ t.faults.halted = false ∧
    (s.active.test.mark0.source = .rupture → t.controller.mark0 = true) ∧
    (s.active.test.mark1.source = .rupture → t.controller.mark1 = true) ∧
    t.tracker = s.tracker ∧ t.monitor = s.monitor ∧ t.staged = s.staged ∧ t.active = s.active ∧
    t.responder = s.responder ∧ answerTrail t.outlet = answerTrail s.outlet ∧
    recordTrail s.outlet <+: recordTrail t.outlet) ∧
  (∀ (r : CloseReport) (s : State), rupturePhase s.controller.phase = true → s.active.test.quorum ≤ r.clipped →
    0 < s.active.test.quorum →
    let left := s.controller.phase
    let counted := closeReport { r with clipped := 0 } s
    let flagged : State := { counted with controller := { counted.controller with ruptured := true } }
    let told := raise .rupture (offerRecord (.rupture
      { event := r.number, cls := r.cls, clipped := r.clipped, quorum := s.active.test.quorum, phase := left,
        settled := s.tracker.settled.getD 0, pressure := s.monitor.pressure, pmax := s.monitor.pmax }) flagged)
    let marked : State := { told with controller :=
      { told.controller with
        mark0 := told.controller.mark0 || decide (s.active.test.mark0.source = .rupture)
        mark1 := told.controller.mark1 || decide (s.active.test.mark1.source = .rupture) } }
    let part : Option HoldPart :=
      if left = .hold then
        counted.controller.hold.map fun h => { tally := h.tally, span := passTick s - h.entry, interrupted := false }
      else none
    let ended : State :=
      if left = .ramp then
        let offered := offerSome ((onsetOwed counted).map .onset) marked
        { offered with controller := { offered.controller with ramp := none } }
      else if left = .hold then { marked with controller := { marked.controller with hold := none } }
      else marked
    let changed := offerRecord (.phase
      { old := left, new := .burst, settled := s.tracker.settled, pressure := s.monitor.pressure,
        events := ended.controller.counters.events, hold := part })
      { ended with controller := { ended.controller with phase := .burst, phaseEvents := 0 } }
    closeReport r s = (List.finRange 32).foldl (fun u c => stopUnit left true c u) changed) ∧
  (∀ (c : Chan) (h : Hit) (ph : Phase) (s : State), s.units[c].ctx = .openHit h →
    let drawn : State := { s with freeDraws := s.freeDraws + 1 }
    let notice : EndNotice :=
      { chan := c, serial := s.units[c].serial, clip := h.clip, peakDb := peakDbOf c h s }
    let record := hitRecord c s.units[c].serial h .truncated ph s
    let ends (told : State) : State :=
      (offerRecord (.hit record) (onCounters (fun k => { k with hits := countOn k.hits }) told)).onUnit c
        fun u => { u with ctx := .dark, lane := [] }
    stopUnit ph true c s = ends
      (if Config.noticeHeldBack s.freeDraws then
        { drawn with assembler := { drawn.assembler with inFlight := s.assembler.inFlight ++ [notice] } }
      else endNotice notice drawn))

/-! ## Settle passes and the orders they take -/

/-- A pass with nothing due in the assembler and no queued order (R13, R95, R106): in HOLD the HOLD-QUIET marks, and no
change but the end of the pass; a waiting SETTLE frame is then handled as if it had just arrived (R14). -/
def Obligations.PassWithNothingDue : Prop :=
  ∀ s : State, s.tracker.passInProgress = true → nothingDue s → s.faults.halted = false → s.controller.queue = [] →
    (s.tracker.waiting = none → (s.controller.phase ≠ .hold ∨ s.controller.hold = none) →
      exec .settlePass s = .next (passOver s)) ∧
    (∀ h : Hold, s.tracker.waiting = none → s.controller.phase = .hold → s.controller.hold = some h →
      let holds (m : MarkSpec) : Bool :=
        decide (m.source = .holdQuiet ∧ (m.parameter : Int) ≤ (passTick s : Int) - h.quietRef)
      exec .settlePass s = .next (passOver { s with controller :=
        { s.controller with
          mark0 := s.controller.mark0 || holds s.active.test.mark0
          mark1 := s.controller.mark1 || holds s.active.test.mark1 } })) ∧
    (∀ b : Tick, s.tracker.waiting = some b → exec .settlePass s = .next (trackSettle b (passOver (holdQuiet s))))

/-- The head of the queue examined in a pass (R95, R96, R102): an illegal head leaves the queue, answered REFUSED-PHASE;
a legal AWAIT consumes its mark and is answered DONE, or stays, stalled; a legal SWAP leaves the queue and is carried
out; and the orders legal in each phase are those of the succession table. A SWAP in any phase (R101, R133 to R138): its
tables one after the other until a report halts the part, each copied, copied with entries forced to OFF, or refused,
with its report; then each channel's directive, by its active mode before and after: an OPEN hit truncated and the
context DARK, or a DARK context READY in a listening phase, or none (R20, R35, R135); then the answer. The model's
choices in it: the answer comes after the HIT records (log entry 25), channel 0's directive comes first (log entry 11),
the end notices of the hits that a SWAP truncates are applied at once (log entry 22), and a SWAP cut short because a
report has halted the part is answered CANCELLED behind the CANCELLED answers of the queued orders (log entry 6). -/
def Obligations.HeadExamined : Prop :=
  (∀ (q : QueuedOrder) (rest : List QueuedOrder) (s : State), PassRuns s → s.controller.queue = q :: rest →
    let quiet := holdQuiet s
    let popped : State := { quiet with controller := { quiet.controller with queue := rest, stalled := false } }
    (orderLegal s.controller.phase q.order = false →
      exec .settlePass s = .next (passOver (answer
        { tag := q.tag, kind := .order, code := .refusedPhase, data := .none } popped))) ∧
    (∀ m : MarkName, q.order = .await m → orderLegal s.controller.phase q.order = true →
      (markSet m quiet.controller = true →
        exec .settlePass s = .next (passOver (answer
          { tag := q.tag, kind := .order, code := .done, data := .none }
          { popped with controller := clearMark m popped.controller }))) ∧
      (markSet m quiet.controller = false →
        exec .settlePass s = .next (passOver
          { quiet with controller := { quiet.controller with stalled := true } }))) ∧
    (∀ name : SwapName, q.order = .swap name → orderLegal s.controller.phase q.order = true →
      let swapped := swapOrder name q.tag popped
      exec .settlePass s = .next (if swapped.faults.halted then swapped else passOver swapped))) ∧
  (∀ o : Order, orderLegal .burst o = true ↔ o = .finish) ∧
  (∀ o : Order, orderLegal .muted o = true ↔
    (o = .unmute ∨ (∃ n, o = .swap n) ∨ (∃ m, o = .await m) ∨ o = .finish)) ∧
  (∀ o : Order, orderLegal .armed o = true ↔
    (o = .ramp ∨ o = .mute ∨ (∃ n, o = .swap n) ∨ (∃ m, o = .await m) ∨ o = .finish)) ∧
  (∀ o : Order, orderLegal .ramp o = true ↔
    (o = .hold ∨ o = .unload ∨ o = .mute ∨ (∃ n, o = .swap n) ∨ (∃ m, o = .await m) ∨ o = .finish)) ∧
  (∀ o : Order, orderLegal .hold o = true ↔
    (o = .ramp ∨ o = .unload ∨ o = .mute ∨ (∃ n, o = .swap n) ∨ (∃ m, o = .await m) ∨ o = .finish)) ∧
  (∀ o : Order, orderLegal .unload o = true ↔
    (o = .ramp ∨ o = .hold ∨ o = .mute ∨ (∃ n, o = .swap n) ∨ (∃ m, o = .await m) ∨ o = .finish)) ∧
  (∀ s : State,
    let rising (t : Tables) : Prop := ∀ i j : Fin 100, i ≤ j → t.levels[i] ≤ t.levels[j]
    let copied : State :=
      { s with active := { s.active with channels := copiedChannels s.staged.channels s.active.channels } }
    (firstSkipped s.staged.channels s.active.channels = none → swapTable .channel s = copied) ∧
    (∀ d, firstSkipped s.staged.channels s.active.channels = some d →
      swapTable .channel s = reportFault .modeSkip (some d.val) copied) ∧
    swapTable .pair s = { s with active := { s.active with pairs := s.staged.pairs } } ∧
    (rising s.staged → swapTable .decibel s = { s with active := { s.active with levels := s.staged.levels } }) ∧
    (¬rising s.staged → swapTable .decibel s = reportFault .tableInvalid (some 2) s) ∧
    (s.staged.test.low < s.staged.test.high →
      swapTable .test s = { s with active := { s.active with test := s.staged.test } }) ∧
    (s.staged.test.high ≤ s.staged.test.low → swapTable .test s = reportFault .tableInvalid (some 3) s)) ∧
  (∀ (name : SwapName) (tag : Byte) (s : State),
    let names (t : TableName) : Prop := name = .one t ∨ name = .all
    let handle (t : TableName) (u : State) : State := if u.faults.halted then u else swapTable t u
    let handled : State :=
      match name with
      | .one t => handle t s
      | .all => handle .test (handle .decibel (handle .pair (handle .channel s)))
    let directed := (List.finRange 32).foldl (fun u c => swapDirective s.active.channels u c) handled
    let refused : Prop :=
      (names .decibel ∧ ¬∀ i j : Fin 100, i ≤ j → s.staged.levels[i] ≤ s.staged.levels[j]) ∨
      (names .test ∧ s.staged.test.high ≤ s.staged.test.low)
    let reply (code : AnswerCode) : Answer := { tag := tag, kind := .order, code := code, data := .none }
    (handled.faults.halted = true → swapOrder name tag s = answer (reply .cancelled) handled) ∧
    (handled.faults.halted = false → refused → swapOrder name tag s = answer (reply .refusedInvalid) directed) ∧
    (handled.faults.halted = false → ¬refused → swapOrder name tag s = answer (reply .done) directed) ∧
    (handled.faults.halted = false → ∀ c : Chan,
      let listened := modeListens s.active.channels[c].mode
      let listens := modeListens handled.active.channels[c].mode
      let unit := (swapOrder name tag s).units[c]
      (listened = true → listens = false → unit = { s.units[c] with ctx := .dark, lane := [] }) ∧
      (listened = false → listens = true → listeningPhase s.controller.phase = true → s.units[c].ctx = .dark →
        unit = { s.units[c] with ctx := .ready }) ∧
      (listened = listens ∨ (listened = false ∧ (listeningPhase s.controller.phase = false ∨ s.units[c].ctx ≠ .dark)) →
        unit = s.units[c]))) ∧
  (∀ (before : Vector ChannelEntry 32) (c : Chan) (s : State),
    (modeListens before[c].mode = true → modeListens s.active.channels[c].mode = false →
      swapDirective before s c = stopUnit s.controller.phase false c s) ∧
    (modeListens before[c].mode = false → modeListens s.active.channels[c].mode = true →
      listeningPhase s.controller.phase = true →
      swapDirective before s c = s.onUnit c fun u => if u.ctx = .dark then { u with ctx := .ready } else u) ∧
    (modeListens before[c].mode = modeListens s.active.channels[c].mode ∨
      (modeListens before[c].mode = false ∧ listeningPhase s.controller.phase = false) →
      swapDirective before s c = s))

/-- RAMP, HOLD and UNLOAD taken in a pass (R97, R98, R108, R115, R117, R118, R120): the phase left ends, with its ONSET
record where one is owed and the hold part of its PHASE record when it was HOLD; the phase changes and the PHASE record is
offered; a new ramp or hold begins, or the unload is noted; the order is answered DONE. -/
def Obligations.LoadOrdersTaken : Prop :=
  ∀ (tag : Byte) (rest : List QueuedOrder) (s : State), PassRuns s →
    let quiet := holdQuiet s
    let popped : State := { quiet with controller := { quiet.controller with queue := rest, stalled := false } }
    let done : Answer := { tag := tag, kind := .order, code := .done, data := .none }
    let part : Option HoldPart :=
      if s.controller.phase = .hold then
        s.controller.hold.map fun h => { tally := h.tally, span := passTick s - h.entry, interrupted := false }
      else none
    let left : State :=
      if s.controller.phase = .ramp then
        let offered := offerSome ((onsetOwed s).map .onset) popped
        { offered with controller := { offered.controller with ramp := none } }
      else if s.controller.phase = .hold then
        { popped with controller := { popped.controller with hold := none } }
      else popped
    let changed (new : Phase) : State := offerRecord (.phase
      { old := s.controller.phase, new := new, settled := s.tracker.settled, pressure := s.monitor.pressure,
        events := left.controller.counters.events, hold := part })
      { left with controller := { left.controller with phase := new, phaseEvents := 0 } }
    (s.controller.queue = { order := .ramp, tag := tag } :: rest →
      (s.controller.phase = .armed ∨ s.controller.phase = .hold ∨ s.controller.phase = .unload) →
      let number := if s.controller.lastRamp < 65535 then s.controller.lastRamp + 1 else s.controller.lastRamp
      let reload := s.controller.unloadNoted && decide (0 < s.monitor.pmax)
      let ramp : Ramp := { number := number, reload := reload, pref := if reload then some s.monitor.pmax else none,
                           events := 0, onset := if reload then .undecided else .notTracked }
      exec .settlePass s = .next (passOver (answer done { changed .ramp with controller :=
        { (changed .ramp).controller with ramp := some ramp, lastRamp := number, unloadNoted := false } }))) ∧
    (s.controller.queue = { order := .hold, tag := tag } :: rest →
      (s.controller.phase = .ramp ∨ s.controller.phase = .unload) →
      exec .settlePass s = .next (passOver (answer done { changed .hold with controller :=
        { (changed .hold).controller with
          hold := some { entry := passTick s, tally := 0, quietRef := passTick s } } }))) ∧
    (s.controller.queue = { order := .unload, tag := tag } :: rest →
      (s.controller.phase = .ramp ∨ s.controller.phase = .hold) →
      exec .settlePass s = .next (passOver (answer done { changed .unload with controller :=
        { (changed .unload).controller with unloadNoted := true } })))

/-- MUTE and UNMUTE taken in a pass. MUTE (R99): the muted-from phase is the phase left, a hold ends interrupted, a ramp
is kept, the phase is MUTED, and then every unit is stopped, stamped with the phase left. UNMUTE (R20, R100, R115): the
phase is the muted-from phase again, a new hold begins when that is HOLD, and every DARK context of a LISTEN or GUARD
channel is READY. Each is answered DONE. Stopping every unit is the stop directive of each of the 32 channels (R34). The
model's choices in it: the end notices of the hits MUTE truncates are applied at once (log entry 22), channel 0 is
stopped first (log entry 11), and DONE is built after the HIT records of those hits are offered (log entry 25). -/
def Obligations.MuteAndUnmuteTaken : Prop :=
  (∀ (tag : Byte) (rest : List QueuedOrder) (s : State), PassRuns s →
     s.controller.queue = { order := .mute, tag := tag } :: rest → listeningPhase s.controller.phase = true →
     let quiet := holdQuiet s
     let part : Option HoldPart :=
       if s.controller.phase = .hold then
         s.controller.hold.map fun h => { tally := h.tally, span := passTick s - h.entry, interrupted := true }
       else none
     let changed := offerRecord (.phase
       { old := s.controller.phase, new := .muted, settled := s.tracker.settled, pressure := s.monitor.pressure,
         events := s.controller.counters.events, hold := part })
       { quiet with controller :=
         { quiet.controller with
           queue := rest, stalled := false, mutedFrom := some s.controller.phase, phase := .muted, phaseEvents := 0
           hold := if s.controller.phase = .hold then none else s.controller.hold } }
     exec .settlePass s = .next (passOver (answer { tag := tag, kind := .order, code := .done, data := .none }
       (stopAll s.controller.phase false changed))) ∧
     stopAll s.controller.phase false changed =
       (List.finRange 32).foldl (fun u c => stopUnit s.controller.phase false c u) changed ∧
     (noOpenHit s → ∀ c : Chan,
       (stopAll s.controller.phase false changed).units[c] = { serial := s.units[c].serial, ctx := .dark, lane := [] })) ∧
  (∀ (tag : Byte) (rest : List QueuedOrder) (back : Phase) (s : State), PassRuns s →
     s.controller.queue = { order := .unmute, tag := tag } :: rest → s.controller.phase = .muted →
     s.controller.mutedFrom = some back →
     let changed := offerRecord (.phase
       { old := .muted, new := back, settled := s.tracker.settled, pressure := s.monitor.pressure,
         events := s.controller.counters.events, hold := none })
       { s with controller := { s.controller with queue := rest, stalled := false, phase := back, phaseEvents := 0 } }
     let begun : State := { changed with
       units := mapVec (fun c => if modeListens s.active.channels[c].mode = true ∧ s.units[c].ctx = .dark then
           { s.units[c] with ctx := .ready } else s.units[c]) (Vector.finRange 32)
       controller := { changed.controller with
         mutedFrom := none
         hold := if back = .hold then some { entry := passTick s, tally := 0, quietRef := passTick s }
                 else s.controller.hold } }
     exec .settlePass s = .next (passOver (answer { tag := tag, kind := .order, code := .done, data := .none } begun)))

/-- FINISH taken in a pass (R103, R104, R108, R117, R120). With no hit open and nothing in the assembler: the ramp in progress
ends with its ONSET record where one is owed, the SUMMARY record is offered, the orders behind are answered CANCELLED, the
phase is IDLE with its PHASE record, the tracker is cleared, and FINISH is answered DONE. Marks, counters, rupture flag,
tables and conditions are left but for what the offers do. In general every unit is first stopped, stamped with the phase
before finish, and then comes the flush (R77): every entry of the arrival list is placed, whatever S is, and every open event
closes, in slot order, with reason FLUSH; list and table are then empty. The later steps go by what the flush left, a rupture
at a close of it included. That channel 0 is stopped first is the model's choice (log entry 11). -/
def Obligations.FinishTaken : Prop :=
  (∀ (tag : Byte) (rest : List QueuedOrder) (s : State), PassRuns s →
    s.controller.queue = { order := .finish, tag := tag } :: rest → s.controller.phase ≠ .idle →
    noOpenHit s → assemblerEmpty s →
    let quiet := holdQuiet s
    let stopped : State := { quiet with
      units := mapVec (fun c => { serial := s.units[c].serial, ctx := .dark, lane := [] }) (Vector.finRange 32)
      controller := { quiet.controller with queue := rest, stalled := false } }
    let part : Option HoldPart :=
      if s.controller.phase = .hold then
        s.controller.hold.map fun h => { tally := h.tally, span := passTick s - h.entry, interrupted := false }
      else none
    let owed := offerSome ((onsetOwed s).map .onset) stopped
    let ended : State := { owed with controller := { owed.controller with ramp := none, hold := none } }
    let summed := offerRecord (.summary
      { counters := ended.controller.counters, pmax := s.monitor.pmax, rupture := s.controller.ruptured,
        before := s.controller.phase }) ended
    let cancelled := answerEach
      (rest.map fun q => { tag := q.tag, kind := .order, code := .cancelled, data := .none })
      { summed with controller := { summed.controller with queue := [], stalled := false } }
    let idle := offerRecord (.phase
      { old := s.controller.phase, new := .idle, settled := s.tracker.settled, pressure := s.monitor.pressure,
        events := cancelled.controller.counters.events, hold := part })
      { cancelled with controller :=
        { cancelled.controller with phase := .idle, mutedFrom := none, phaseEvents := 0 } }
    exec .settlePass s = .next (answer { tag := tag, kind := .order, code := .done, data := .none }
      { idle with tracker :=
        { expected := Vector.replicate 4 none, lag := Vector.replicate 4 false, last := none, settled := none,
          passInProgress := false, waiting := none } })) ∧
  (∀ (tag : Byte) (rest : List QueuedOrder) (s : State), PassRuns s →
    s.controller.queue = { order := .finish, tag := tag } :: rest → s.controller.phase ≠ .idle →
    let quiet := holdQuiet s
    let popped : State := { quiet with controller := { quiet.controller with queue := rest, stalled := false } }
    let stopped := (List.finRange 32).foldl (fun u c => stopUnit s.controller.phase false c u) popped
    let placed := stopped.assembler.arrivals.foldl
      (fun u x => placeArrival x { u with assembler := { u.assembler with arrivals := u.assembler.arrivals.tail } }) stopped
    let flushed := (List.finRange 8).foldl (fun u i =>
      match u.assembler.slots[i] with
      | none => u
      | some e => closeEvent i e .flush u) placed
    let part : Option HoldPart :=
      if flushed.controller.phase = .hold then
        flushed.controller.hold.map fun h => { tally := h.tally, span := passTick s - h.entry, interrupted := false }
      else none
    let owed := offerSome ((onsetOwed flushed).map .onset) flushed
    let ended : State := { owed with controller := { owed.controller with ramp := none, hold := none } }
    let summed := offerRecord (.summary
      { counters := ended.controller.counters, pmax := s.monitor.pmax, rupture := flushed.controller.ruptured,
        before := s.controller.phase }) ended
    let cancelled := answerEach
      (rest.map fun q => { tag := q.tag, kind := .order, code := .cancelled, data := .none })
      { summed with controller := { summed.controller with queue := [], stalled := false } }
    let idle := offerRecord (.phase
      { old := flushed.controller.phase, new := .idle, settled := s.tracker.settled, pressure := s.monitor.pressure,
        events := cancelled.controller.counters.events, hold := part })
      { cancelled with controller :=
        { cancelled.controller with phase := .idle, mutedFrom := none, phaseEvents := 0 } }
    flushed.assembler.arrivals = [] ∧ (∀ i : Fin 8, flushed.assembler.slots[i] = none) ∧
    exec .settlePass s = .next (answer { tag := tag, kind := .order, code := .done, data := .none }
      { idle with tracker :=
        { expected := Vector.replicate 4 none, lag := Vector.replicate 4 false, last := none, settled := none,
          passInProgress := false, waiting := none } }))

/-! ## Orders on arrival -/

/-- Orders on arrival, but for ARM and SWAP in IDLE. Outside IDLE an order other than ARM joins the queue's tail and keeps its
reservation while the queue holds fewer than 4 (R93, R94, R156). Turned away with an answer at once and no other effect: an
order, SWAP table or AWAIT mark outside its codes, REFUSED-RANGE (R156); ARM outside IDLE, REFUSED-PHASE, and any other order
at a full queue, REFUSED-FULL (R93); an order other than ARM and SWAP in IDLE, REFUSED-PHASE (R92). The codes are R171's: the
order byte 1 to 9, the table of a SWAP 0 to 4, the mark of an AWAIT 0 or 1; the other orders ignore the argument (R172), and
nothing else names an order. -/
def Obligations.OrdersOnArrival : Prop :=
  (∀ (f : Frame) (o : Order) (s : State) (c : Instr),
     c ∈ [Instr.ramp f, .hold f, .unload f, .mute f, .unmute f, .swap f, .await f, .finish f] →
     Accepted .order f s → s.controller.phase ≠ .idle →
     orderOf (fieldAt f.payload 1 1) (fieldAt f.payload 2 1) = some o → o ≠ .arm → s.controller.queue.length < 4 →
     exec c s = .next { s with
       outlet := { s.outlet with reservations := s.outlet.reservations + 1 }
       controller := { s.controller with queue := s.controller.queue ++ [{ order := o, tag := byteAt f.payload 0 }] } }) ∧
  (∀ (f : Frame) (s : State) (c : Instr),
     c ∈ [Instr.arm f, .ramp f, .hold f, .unload f, .mute f, .unmute f, .swap f, .await f, .finish f] →
     Accepted .order f s →
     let named := orderOf (fieldAt f.payload 1 1) (fieldAt f.payload 2 1)
     (named = none → exec c s = .next (answered (replyTo .order f .refusedRange .none) s)) ∧
     (s.controller.phase ≠ .idle → named = some .arm →
       exec c s = .next (answered (replyTo .order f .refusedPhase .none) s)) ∧
     (∀ o, s.controller.phase ≠ .idle → named = some o → o ≠ .arm → 4 ≤ s.controller.queue.length →
       exec c s = .next (answered (replyTo .order f .refusedFull .none) s)) ∧
     (∀ o, s.controller.phase = .idle → named = some o → o ≠ .arm → (∀ n, o ≠ .swap n) →
       exec c s = .next (answered (replyTo .order f .refusedPhase .none) s))) ∧
  (∀ argument : Nat,
     orderOf 1 argument = some .arm ∧ orderOf 2 argument = some .ramp ∧ orderOf 3 argument = some .hold ∧
     orderOf 4 argument = some .unload ∧ orderOf 5 argument = some .mute ∧ orderOf 6 argument = some .unmute ∧
     orderOf 9 argument = some .finish) ∧
  (orderOf 7 0 = some (.swap (.one .channel)) ∧ orderOf 7 1 = some (.swap (.one .pair)) ∧
     orderOf 7 2 = some (.swap (.one .decibel)) ∧ orderOf 7 3 = some (.swap (.one .test)) ∧
     orderOf 7 4 = some (.swap .all) ∧ ∀ argument : Nat, 5 ≤ argument → orderOf 7 argument = none) ∧
  (orderOf 8 0 = some (.await .zero) ∧ orderOf 8 1 = some (.await .one) ∧
     ∀ argument : Nat, 2 ≤ argument → orderOf 8 argument = none) ∧
  (∀ order argument : Nat, order = 0 ∨ 10 ≤ order → orderOf order argument = none)

/-- ARM in IDLE (R105; R16, R17, R53, R76, R90, R111): the controller, the tracker and the assembler begin a test, Pmax is
the current pressure or 0, the PHASE record IDLE→ARMED is offered without S, the contexts of LISTEN and GUARD channels are
READY and the others DARK with the serials kept, and the order is answered DONE. Its order byte is 1, whatever the argument
(R171, R172). -/
def Obligations.ArmBeginsTest : Prop :=
  (∀ order argument : Nat, orderOf order argument = some .arm ↔ order = 1) ∧
  ∀ (f : Frame) (s : State), Accepted .order f s → s.controller.phase = .idle →
    orderOf (fieldAt f.payload 1 1) (fieldAt f.payload 2 1) = some .arm →
    let cleared : State := { s with
      tracker :=
        { expected := Vector.replicate 4 none, lag := Vector.replicate 4 false, last := none, settled := none,
          passInProgress := false, waiting := none }
      assembler := { arrivals := [], slots := Vector.replicate 8 none, eventNumber := 0, inFlight := [] }
      controller :=
        { phase := .armed, mutedFrom := none, queue := s.controller.queue, stalled := false, mark0 := false,
          mark1 := false, phaseEvents := 0, counters := ⟨0, 0, 0, 0, 0, 0, 0, 0, 0⟩, ruptured := false, ramp := none,
          lastRamp := 0, unloadNoted := false, hold := none }
      monitor := { s.monitor with pmax := s.monitor.pressure.getD 0 } }
    let recorded := offerRecord (.phase
      { old := .idle, new := .armed, settled := none, pressure := s.monitor.pressure, events := 0, hold := none }) cleared
    exec (.arm f) s = .next (answered (replyTo .order f .done .none) { recorded with
      units := mapVec (fun c =>
        { serial := s.units[c].serial
          ctx := if modeListens s.active.channels[c].mode then .ready else .dark
          lane := [] }) (Vector.finRange 32) })

/-- SWAP of any name in IDLE, every context DARK (R92, R101, R133, R134, R136 to R138): each named table that validation
passes is copied, a channel entry whose mode moves between LISTEN and GUARD with mode OFF; one that it refuses is left. An
order with no refused table and no skipped mode changes nothing else and is answered DONE. In general the staged copies, the
phase and the contexts stay, and unless a report has halted the part the answer is REFUSED-INVALID when a table was refused
and DONE otherwise; the reports of a single table at an empty fault slot are TABLE-INVALID with the table as selector, and
MODE-SKIP with the lowest skipped channel, the one that skips and below which none does. The order byte is 7, and the
argument CHANNEL 0, PAIR 1, DECIBEL 2, TEST 3 or ALL 4 (R171, R172). -/
def Obligations.SwapInIdle : Prop :=
  (∀ (order argument : Nat) (name : SwapName), orderOf order argument = some (.swap name) ↔
    order = 7 ∧ argument =
      match name with
      | .one .channel => 0
      | .one .pair => 1
      | .one .decibel => 2
      | .one .test => 3
      | .all => 4) ∧
  (∀ (f : Frame) (s : State) (name : SwapName), Accepted .order f s → s.controller.phase = .idle →
    orderOf (fieldAt f.payload 1 1) (fieldAt f.payload 2 1) = some (.swap name) →
    (∀ c : Chan, s.units[c] = { serial := s.units[c].serial, ctx := .dark, lane := [] }) →
    let takes (t : TableName) : Prop := name = .one t ∨ name = .all
    let rising : Prop := ∀ i j : Fin 100, i ≤ j → s.staged.levels[i] ≤ s.staged.levels[j]
    let reply (code : AnswerCode) : Answer := replyTo .order f code .none
    ((takes .channel → ∀ c : Chan, modeSkips s.staged.channels[c] s.active.channels[c] = false) →
      (takes .decibel → rising) → (takes .test → s.staged.test.low < s.staged.test.high) →
      exec (.swap f) s = .next (answered (reply .done) { s with active :=
        { channels := if name = .one .channel ∨ name = .all then s.staged.channels else s.active.channels
          pairs := if name = .one .pair ∨ name = .all then s.staged.pairs else s.active.pairs
          levels := if name = .one .decibel ∨ name = .all then s.staged.levels else s.active.levels
          test := if name = .one .test ∨ name = .all then s.staged.test else s.active.test } })) ∧
    (∃ t, exec (.swap f) s = .next t ∧ t.staged = s.staged ∧ t.units = s.units ∧ t.controller.phase = .idle ∧
      (t.faults.halted = false →
        (t.active.channels = if name = .one .channel ∨ name = .all then
          copiedChannels s.staged.channels s.active.channels else s.active.channels) ∧
        (t.active.pairs = if name = .one .pair ∨ name = .all then s.staged.pairs else s.active.pairs) ∧
        (takes .decibel → rising → t.active.levels = s.staged.levels) ∧
        (takes .decibel ∧ rising ∨ t.active.levels = s.active.levels) ∧
        (takes .test → s.staged.test.low < s.staged.test.high → t.active.test = s.staged.test) ∧
        (takes .test ∧ s.staged.test.low < s.staged.test.high ∨ t.active.test = s.active.test) ∧
        ((takes .decibel ∧ ¬rising) ∨ (takes .test ∧ s.staged.test.high ≤ s.staged.test.low) →
          answerTrail t.outlet = answerTrail s.outlet ++ [reply .refusedInvalid]) ∧
        (¬((takes .decibel ∧ ¬rising) ∨ (takes .test ∧ s.staged.test.high ≤ s.staged.test.low)) →
          answerTrail t.outlet = answerTrail s.outlet ++ [reply .done]))) ∧
    (s.outlet.faultSlot = none →
      (name = .one .decibel → ¬rising →
        exec (.swap f) s = .next (answered (reply .refusedInvalid) (reportFault .tableInvalid (some 2) s))) ∧
      (name = .one .test → s.staged.test.high ≤ s.staged.test.low →
        exec (.swap f) s = .next (answered (reply .refusedInvalid) (reportFault .tableInvalid (some 3) s))) ∧
      (∀ d : Chan, name = .one .channel → firstSkipped s.staged.channels s.active.channels = some d →
        exec (.swap f) s = .next (answered (reply .done) (reportFault .modeSkip (some d.val)
          { s with active :=
            { s.active with channels := copiedChannels s.staged.channels s.active.channels } }))))) ∧
  (∀ (staged active : Vector ChannelEntry 32) (c : Chan),
    let skips := staged[c].mode ≠ .off ∧ active[c].mode ≠ .off ∧ staged[c].mode ≠ active[c].mode
    (skips → (copiedChannels staged active)[c] = { staged[c] with mode := .off } ∧
      ∃ d, firstSkipped staged active = some d ∧ d ≤ c) ∧
    (¬skips → (copiedChannels staged active)[c] = staged[c])) ∧
  (∀ (staged active : Vector ChannelEntry 32) (d : Chan),
    let skips (c : Chan) : Prop := staged[c].mode ≠ .off ∧ active[c].mode ≠ .off ∧ staged[c].mode ≠ active[c].mode
    firstSkipped staged active = some d ↔ skips d ∧ ∀ c : Chan, c < d → ¬skips c)

/-! ## Pressure -/

/-- A PROCESS frame outside HALTED: a valid one sets the current pressure, clears the stale flag, raises Pmax outside IDLE,
and sets the pressure marks that hold (R106, R112); an invalid one sets the stale flag and raises PRESSURE-STALE, and leaves
pressure, Pmax and marks (R113). -/
def Obligations.ProcessFrameTaken : Prop :=
  ∀ (f : Frame) (s : State), FramePasses kindProcess f s → f.payload.length = 10 →
    let p := fieldAt f.payload 7 3
    let holds (m : MarkSpec) : Bool :=
      decide ((m.source = .pressureAtLeast ∧ m.parameter ≤ p) ∨ (m.source = .pressureAtMost ∧ p ≤ m.parameter))
    ((byteAt f.payload 6).getLsbD 0 = true →
      exec (.process f) s = .next { s with
        monitor :=
          { pressure := some p, stale := false
            pmax := if s.controller.phase = .idle then s.monitor.pmax else max s.monitor.pmax p }
        controller :=
          { s.controller with
            mark0 := s.controller.mark0 || holds s.active.test.mark0
            mark1 := s.controller.mark1 || holds s.active.test.mark1 } }) ∧
    ((byteAt f.payload 6).getLsbD 0 = false →
      exec (.process f) s = .next (raise .pressureStale { s with monitor := { s.monitor with stale := true } }))

/-! ## Management frames -/

/-- IDENTIFY and SET-MARK, accepted (R155, R107, R156): IDENTIFY is answered DONE with the identity content and changes
nothing; SET-MARK sets mark 0 or 1 and is answered DONE, and any other number is answered REFUSED-RANGE. The identity
content is vendor code 80, family code 3220, revision 1, channels 32, cards 4, pairs 16, event slots 8, arrival list 64
and record queue 512, in the widths of R171 and R173 (3220 is 0C94h and 512 is 0200h); the answer carries it behind the
tag, the kind 10h and DONE, and the IDENTITY record is this content and then the reset cause (POWER-ON 0, LINK 1). -/
def Obligations.IdentifyAndSetMark : Prop :=
  (∀ (f : Frame) (s : State), Accepted .identify f s →
    exec (.identify f) s = .next (answered (replyTo .identify f .done .identity) s)) ∧
  (∀ (f : Frame) (s : State), Accepted .setMark f s →
    (fieldAt f.payload 1 1 = 0 → exec (.setMark f) s = .next (answered (replyTo .setMark f .done .none)
      { s with controller := { s.controller with mark0 := true } })) ∧
    (fieldAt f.payload 1 1 = 1 → exec (.setMark f) s = .next (answered (replyTo .setMark f .done .none)
      { s with controller := { s.controller with mark1 := true } })) ∧
    (2 ≤ fieldAt f.payload 1 1 →
      exec (.setMark f) s = .next (answered (replyTo .setMark f .refusedRange .none) s))) ∧
  (let identity : List Byte := [80, 0x0C, 0x94, 1, 32, 4, 16, 8, 64, 0x02, 0x00]
   identityBytes = identity ∧
   (∀ f : Frame, answerPayload (replyTo .identify f .done .identity) = [byteAt f.payload 0, 0x10, 0] ++ identity) ∧
   recordPayload (.identity .powerOn) = identity ++ [0] ∧ recordPayload (.identity .link) = identity ++ [1])

/-- READ-STATE, accepted (R157): answered DONE with every item as it stands, and then every pending condition is marked seen;
nothing else changes. -/
def Obligations.ReadStateReportsAndMarksSeen : Prop :=
  ∀ (f : Frame) (s : State), Accepted .readState f s →
    ∃ content : StateContent,
      exec (.readState f) s = .next (answered (replyTo .readState f .done (.state content))
        { s with faults := { s.faults with seenSet := s.faults.seenSet.union s.faults.pendingSet } }) ∧
      content.phase = s.controller.phase ∧ content.mutedFrom = s.controller.mutedFrom ∧
      content.queueLength = s.controller.queue.length ∧ content.stalled = s.controller.stalled ∧
      content.mark0 = s.controller.mark0 ∧ content.mark1 = s.controller.mark1 ∧
      content.counters = s.controller.counters ∧ content.ruptured = s.controller.ruptured ∧
      content.last = s.tracker.last ∧ content.settled = s.tracker.settled ∧
      content.expected = s.tracker.expected ∧ content.lag = s.tracker.lag ∧
      content.pressure = s.monitor.pressure ∧ content.stale = s.monitor.stale ∧ content.pmax = s.monitor.pmax ∧
      content.fill = s.outlet.records.length ∧ content.dense = s.outlet.dense ∧ content.cut = s.outlet.cut ∧
      (content.faultHeld = true ↔ ∃ r, s.outlet.faultSlot = some r) ∧
      (content.faultSecond = true ↔ ∃ r, s.outlet.faultSlot = some r ∧ r.second ≠ none) ∧
      content.halted = false ∧ content.pendingSet = s.faults.pendingSet ∧ content.seenSet = s.faults.seenSet

/-- DROP-ORDERS, accepted (R158): every queued order leaves, answered CANCELLED in queue order, the stalled flag is cleared,
and DONE follows; each answer fills a reservation (R144), and nothing else changes but that a free link takes the item that
the arbiter chooses (R141). -/
def Obligations.DropOrdersEmptiesQueue : Prop :=
  ∀ (f : Frame) (s : State), Accepted .dropOrders f s →
    let cancelled : List Answer :=
      s.controller.queue.map fun q => { tag := q.tag, kind := .order, code := .cancelled, data := .none }
    let filled : Outlet :=
      { s.outlet with
        answers := s.outlet.answers ++ cancelled ++ [replyTo .dropOrders f .done .none]
        reservations := s.outlet.reservations - s.controller.queue.length }
    ∃ o : Outlet, exec (.dropOrders f) s = .next
        { s with controller := { s.controller with queue := [], stalled := false }, outlet := o } ∧
      (linkFree s = false → o = filled) ∧ (linkFree s = true → ArbiterChoice filled o) ∧
      answerTrail o = answerTrail s.outlet ++ cancelled ++ [replyTo .dropOrders f .done .none] ∧
      recordTrail o = recordTrail s.outlet

/-- CLEAR-CONDITIONS, accepted (R159, R171): with any of bits 9 to 15 set it is answered REFUSED-RANGE; otherwise both flags
of each named condition that is pending and seen are cleared, the other flags stand, and DONE carries the set cleared. Bits 0
to 8 of a set stand for the nine conditions in R171's order, in a frame received and in a set sent. -/
def Obligations.ClearConditionsClearsSeen : Prop :=
  (∀ (f : Frame) (s : State), Accepted .clearConditions f s →
    (512 ≤ fieldAt f.payload 1 2 →
      exec (.clearConditions f) s = .next (answered (replyTo .clearConditions f .refusedRange .none) s)) ∧
    (fieldAt f.payload 1 2 < 512 →
      ∃ (cleared pendingSet seenSet : CondSet),
        exec (.clearConditions f) s = .next (answered (replyTo .clearConditions f .done (.cleared cleared))
          { s with faults := { pendingSet := pendingSet, seenSet := seenSet, halted := s.faults.halted } }) ∧
        ∀ d : Condition,
          let clears := (condSetOfBits (fieldAt f.payload 1 2)).has d && s.faults.pendingSet.has d &&
            s.faults.seenSet.has d
          cleared.has d = clears ∧ pendingSet.has d = (s.faults.pendingSet.has d && !clears) ∧
          seenSet.has d = (s.faults.seenSet.has d && !clears))) ∧
  (let bit : Condition → Nat := fun d =>
     match d with
     | .denseEntered => 0
     | .recordLoss => 1
     | .passLoss => 2
     | .arrivalOverflow => 3
     | .eventOverflow => 4
     | .holdActive => 5
     | .rupture => 6
     | .pressureStale => 7
     | .mgmtOverrun => 8
   (∀ (n : Nat) (d : Condition), (condSetOfBits n).has d = n.testBit (bit d)) ∧
   ∀ set : CondSet, set.bits < 512 ∧ ∀ d : Condition, set.bits.testBit (bit d) = set.has d)

/-- WRITE-TABLE, accepted (R131): a frame whose extent and entries pass is written whole to the staged copy and answered
DONE; any other is answered REFUSED-RANGE and leaves the staged copy as it was; nothing else changes. The extent is that of
R131's table, and the entries are the count entries of the frame, each of which must read as one in range (R172). The entries
written stand at first index to first index + count − 1, every other entry stands as it stood, and so do the other three
tables; a TEST entry is the whole of its table. The table codes are R171's. -/
def Obligations.WriteTableWritesStagedCopy : Prop :=
  (∀ (f : Frame) (s : State), Accepted .writeTable f s →
    (∀ (table : TableName) (es : TableEntries), tableOf (fieldAt f.payload 1 1) = some table →
      extentOk table (fieldAt f.payload 2 1) (fieldAt f.payload 3 1) = true →
      entriesOf table (fieldAt f.payload 3 1) (f.payload.drop 4) = some es →
      exec (.writeTable f) s = .next (answered (replyTo .writeTable f .done .none)
        { s with staged := writeEntries (fieldAt f.payload 2 1) es s.staged })) ∧
    ((tableOf (fieldAt f.payload 1 1) = none ∨
      (∃ table, tableOf (fieldAt f.payload 1 1) = some table ∧
        (extentOk table (fieldAt f.payload 2 1) (fieldAt f.payload 3 1) = false ∨
          entriesOf table (fieldAt f.payload 3 1) (f.payload.drop 4) = none))) →
      exec (.writeTable f) s = .next (answered (replyTo .writeTable f .refusedRange .none) s))) ∧
  (∀ (first : Nat) (es : List ChannelEntry) (t : Tables) (c : Chan), first + es.length ≤ 32 →
    (writeEntries first (.channel es) t).channels[c] =
      if first ≤ c.val then (es[c.val - first]?).getD t.channels[c] else t.channels[c]) ∧
  (∀ (first : Nat) (es : List PairEntry) (t : Tables) (i : Fin 16), first + es.length ≤ 16 →
    (writeEntries first (.pair es) t).pairs[i] =
      if first ≤ i.val then (es[i.val - first]?).getD t.pairs[i] else t.pairs[i]) ∧
  (∀ (first : Nat) (ls : List Nat) (t : Tables) (i : Fin 100), first + ls.length ≤ 100 →
    (writeEntries first (.decibel ls) t).levels[i] =
      if first ≤ i.val then (ls[i.val - first]?).getD t.levels[i] else t.levels[i]) ∧
  (∀ (first : Nat) (t : Tables),
    (∀ es, writeEntries first (.channel es) t = { t with channels := (writeEntries first (.channel es) t).channels }) ∧
    (∀ es, writeEntries first (.pair es) t = { t with pairs := (writeEntries first (.pair es) t).pairs }) ∧
    (∀ ls, writeEntries first (.decibel ls) t = { t with levels := (writeEntries first (.decibel ls) t).levels }) ∧
    (∀ x, writeEntries first (.test x) t = { t with test := x })) ∧
  (∀ first count : Nat,
    (extentOk .channel first count = true ↔ first ≤ 31 ∧ 1 ≤ count ∧ count ≤ 4 ∧ first + count ≤ 32) ∧
    (extentOk .pair first count = true ↔ first ≤ 15 ∧ 1 ≤ count ∧ count ≤ 4 ∧ first + count ≤ 16) ∧
    (extentOk .decibel first count = true ↔ first ≤ 99 ∧ 1 ≤ count ∧ count ≤ 100 ∧ first + count ≤ 100) ∧
    (extentOk .test first count = true ↔ first = 0 ∧ count = 1)) ∧
  (∀ (count : Nat) (bs : List Byte) (es : TableEntries),
    (entriesOf .channel count bs = some es ↔ ∃ l, es = .channel l ∧ l.length = count ∧
      ∀ j < count, l[j]? = channelEntryOf ((bs.drop (17 * j)).take 17)) ∧
    (entriesOf .pair count bs = some es ↔ ∃ l, es = .pair l ∧ l.length = count ∧
      ∀ j < count, l[j]? = pairEntryOf ((bs.drop (7 * j)).take 7)) ∧
    (entriesOf .decibel count bs = some es ↔ ∃ l, es = .decibel l ∧ l.length = count ∧
      ∀ j < count, l[j]? = levelOf ((bs.drop (2 * j)).take 2)) ∧
    (entriesOf .test 1 bs = some es ↔ ∃ t, es = .test t ∧ testTableOf (bs.take 24) = some t)) ∧
  (tableOf 0 = some .channel ∧ tableOf 1 = some .pair ∧ tableOf 2 = some .decibel ∧ tableOf 3 = some .test ∧
    ∀ n, 4 ≤ n → tableOf n = none)

/-- READ-TABLE, accepted (R132): a frame whose names and extent pass is answered DONE with the named entries of the named
copy, and any other REFUSED-RANGE; reading changes nothing. The extent is that of WRITE-TABLE (R131), whose limits
`WriteTableWritesStagedCopy` spells out; the codes of the tables and of the copies are R171's. -/
def Obligations.ReadTableReadsEitherCopy : Prop :=
  (∀ (f : Frame) (s : State), Accepted .readTable f s →
    let first := fieldAt f.payload 3 1
    let count := fieldAt f.payload 4 1
    (∀ (table : TableName) (copy : CopyName), tableOf (fieldAt f.payload 1 1) = some table →
      copyOf (fieldAt f.payload 2 1) = some copy → extentOk table first count = true →
      let source := if copy = .staged then s.staged else s.active
      ∃ es, exec (.readTable f) s = .next (answered
          (replyTo .readTable f .done (.entries table copy first count es)) s) ∧
        (table = .channel → ∃ l, es = .channel l ∧ l.length = count ∧
          ∀ c : Chan, first ≤ c.val → c.val < first + count → l[c.val - first]? = some source.channels[c]) ∧
        (table = .pair → ∃ l, es = .pair l ∧ l.length = count ∧
          ∀ i : Fin 16, first ≤ i.val → i.val < first + count → l[i.val - first]? = some source.pairs[i]) ∧
        (table = .decibel → ∃ l, es = .decibel l ∧ l.length = count ∧
          ∀ i : Fin 100, first ≤ i.val → i.val < first + count → l[i.val - first]? = some source.levels[i]) ∧
        (table = .test → es = .test source.test)) ∧
    ((tableOf (fieldAt f.payload 1 1) = none ∨ copyOf (fieldAt f.payload 2 1) = none ∨
      ∃ table, tableOf (fieldAt f.payload 1 1) = some table ∧ extentOk table first count = false) →
      exec (.readTable f) s = .next (answered (replyTo .readTable f .refusedRange .none) s))) ∧
  (tableOf 0 = some .channel ∧ tableOf 1 = some .pair ∧ tableOf 2 = some .decibel ∧ tableOf 3 = some .test ∧
    ∀ n, 4 ≤ n → tableOf n = none) ∧
  (copyOf 0 = some .staged ∧ copyOf 1 = some .active ∧ ∀ n, 2 ≤ n → copyOf n = none)

/-- A management frame that passes the checks while reservations and answers number 8 is discarded: MGMT-OVERRUN is raised
and nothing else changes, for every management frame but RESET-LINK (R143). -/
def Obligations.FullAnswerQueueDiscards : Prop :=
  ∀ (f : Frame) (s : State) (c : Instr) (k : MgmtKind),
    (c, k) ∈ [(Instr.identify f, MgmtKind.identify), (.writeTable f, .writeTable), (.readTable f, .readTable),
      (.readState f, .readState), (.setMark f, .setMark), (.dropOrders f, .dropOrders),
      (.clearConditions f, .clearConditions), (.arm f, .order), (.ramp f, .order), (.hold f, .order),
      (.unload f, .order), (.mute f, .order), (.unmute f, .order), (.swap f, .order), (.await f, .order),
      (.finish f, .order)] →
    s.faults.halted = false → checkOk (mgmtKindCode k) f = true → mgmtLengthOk k f.payload = true →
    8 ≤ s.outlet.reservations + s.outlet.answers.length →
    exec c s = .next (raise .mgmtOverrun s)

/-! ## Layouts -/

/-- The bytes of a well-formed frame command on the inlet link read back as that command, for every kind and every payload
(R170, R171, R172); an ORDER frame under the row its order byte names. An ORDER frame that names no order is left out: it is
read as ARM's row, the model's choice (log entry 3). -/
def Obligations.LinkReadsBackEveryFrame : Prop :=
  ∀ (c : Instr) (k : Byte) (f : Frame), commandFrame c = some (k, f) → wellFormed c = true →
    (k = kindOrder → ∃ b, orderByte f = some b ∧ 1 ≤ b.toNat ∧ b.toNat ≤ 9) →
    (linkBytes c).bind linkCommand = some c

/-- A WRITE-TABLE entry as a READ-TABLE answer sends it reads back as the entry, for every entry in range of each of the
four tables (R127 to R130, R172). Its fields stand at R172's offsets with R171's codes, in the bytes sent and in the bytes
received, and bytes read as an entry exactly when they hold its fields there and every field is in range (R131). -/
def Obligations.TableEntriesReadBack : Prop :=
  (∀ e : ChannelEntry, channelEntryOk e → channelEntryOf (channelEntryBytes e) = some e) ∧
  (∀ e : PairEntry, pairEntryOk e → pairEntryOf (pairEntryBytes e) = some e) ∧
  (∀ l : Nat, l ≤ 32768 → levelOf (natBE 2 l) = some l) ∧
  (∀ t : TestTable, testTableOk t → testTableOf (testTableBytes t) = some t) ∧
  (let flag (b : Bool) : Nat := if b then 1 else 0
   let modeNumber : Mode → Nat := fun m =>
     match m with
     | .off => 0
     | .listen => 1
     | .guard => 2
   let timing : CutTiming → Nat := fun c =>
     match c with
     | .immediate => 0
     | .atSettle => 1
   let source : MarkSource → Nat := fun m =>
     match m with
     | .none => 0
     | .pressureAtLeast => 1
     | .pressureAtMost => 2
     | .eventsInPhase => 3
     | .holdQuiet => 4
     | .rupture => 5
     | .denseEntry => 6
   let channelAt (bs : List Byte) (e : ChannelEntry) : Prop :=
     fieldAt bs 0 1 = modeNumber e.mode ∧ fieldAt bs 1 2 = e.threshold ∧
     (fieldAt bs 3 1 : Int) = (if e.gain < 0 then e.gain + 256 else e.gain) ∧ fieldAt bs 4 2 = e.delay ∧
     fieldAt bs 6 2 = e.quiet ∧ fieldAt bs 8 2 = e.peakWindow ∧ fieldAt bs 10 2 = e.rearm ∧ fieldAt bs 12 3 = e.limit ∧
     fieldAt bs 15 1 = e.shift ∧ fieldAt bs 16 1 = flag e.forward
   let pairAt (bs : List Byte) (e : PairEntry) : Prop :=
     fieldAt bs 0 1 = flag e.valid ∧ fieldAt bs 1 1 = e.a.val ∧ fieldAt bs 2 1 = e.b.val ∧ fieldAt bs 3 2 = e.spacing ∧
     fieldAt bs 5 2 = e.velocity
   let testAt (bs : List Byte) (t : TestTable) : Prop :=
     fieldAt bs 0 2 = t.window ∧ fieldAt bs 2 3 = t.span ∧ fieldAt bs 5 1 = t.quorum ∧ fieldAt bs 6 2 = t.high ∧
     fieldAt bs 8 2 = t.low ∧ fieldAt bs 10 1 = timing t.cutTiming ∧ fieldAt bs 11 2 = t.holdLimit ∧
     fieldAt bs 13 1 = t.onsetCount ∧ t.reportMask = condSetOfBits (fieldAt bs 14 2) ∧
     fieldAt bs 16 1 = source t.mark0.source ∧ fieldAt bs 17 3 = t.mark0.parameter ∧
     fieldAt bs 20 1 = source t.mark1.source ∧ fieldAt bs 21 3 = t.mark1.parameter
   (∀ bs e, channelEntryOf bs = some e ↔ channelAt bs e ∧ channelEntryOk e) ∧
   (∀ e, channelEntryOk e → (channelEntryBytes e).length = 17 ∧ channelAt (channelEntryBytes e) e) ∧
   (∀ bs e, pairEntryOf bs = some e ↔ pairAt bs e ∧ pairEntryOk e) ∧
   (∀ e, pairEntryOk e → (pairEntryBytes e).length = 7 ∧ pairAt (pairEntryBytes e) e) ∧
   (∀ bs l, levelOf bs = some l ↔ fieldAt bs 0 2 = l ∧ l ≤ 32768) ∧
   (∀ l, l ≤ 32768 → (natBE 2 l).length = 2 ∧ fieldAt (natBE 2 l) 0 2 = l) ∧
   (∀ bs t, testTableOf bs = some t ↔ testAt bs t ∧ testTableOk t) ∧
   (∀ t, testTableOk t → (testTableBytes t).length = 24 ∧ testAt (testTableBytes t) t))

/-! ## Relations that every step keeps -/

/-- Every step keeps the outlet's and the conditions' relations: a clear condition is never seen (R166), the cut state is
NONE whenever dense mode is off (R140), the record queue holds at most 512 records and 496 HIT and EVENT records (R145), the
pass-through buffer 16 frames (R147) and the arrival list 64 entries (R54). -/
def Obligations.OutletRelationsKept : Prop :=
  ∀ s t : State, step s = .next t → CondsSound s ∧ CutSound s ∧ PlacesSound s →
    CondsSound t ∧ CutSound t ∧ PlacesSound t

/-- Every step keeps the answers' relations: reservations and answers number at most 8 (R143), the order queue holds at most
4 orders (R94), each with its reservation (R156), and no frame waits for the responder between commands (R154). -/
def Obligations.AnswersKept : Prop := ∀ s t : State, step s = .next t → AnswersSound s → AnswersSound t

/-- Every step keeps the relations of tracker, phase and contexts: S at most B, an expected tick never below B (R4, R12);
the muted-from phase in MUTED alone, a hold in HOLD alone, a ramp in RAMP or paused in MUTED, no order queued in IDLE,
HALTED being IDLE without a pass (R15, R91, R94); a context other than DARK only on a listening channel (R18). -/
def Obligations.ControlRelationsKept : Prop :=
  ∀ s t : State, step s = .next t → TrackerSound s ∧ PhaseSound s ∧ ListeningSound s →
    TrackerSound t ∧ PhaseSound t ∧ ListeningSound t

/-- Every step keeps the arrival list in order of tick and channel (R54), and every open event with 1 to 8 members on
different channels, the first of them at its first tick and all within its window (R60, R62). -/
def Obligations.AssemblyRelationsKept : Prop :=
  ∀ s t : State, step s = .next t → ArrivalsSound s ∧ EventsSound s → ArrivalsSound t ∧ EventsSound t

/-- Every step keeps every field of both copies of the tables within its range (R126 to R131), the active decibel table
non-decreasing and the active low mark below the high mark (R133), every OPEN hit's parts within theirs (R17), and the
samples that a unit has not yet taken (log entry 4) in tick order, ahead of its hit and below its card's expected tick
(R9). -/
def Obligations.RangesKept : Prop :=
  ∀ s t : State, step s = .next t → CopiesInRange s ∧ TablesSound s ∧ LanesSound s ∧ HitsSound s →
    CopiesInRange t ∧ TablesSound t ∧ LanesSound t ∧ HitsSound t

/-- The state after reset has every one of these relations. -/
def Obligations.ResetHasTheRelations : Prop :=
  CondsSound State.reset ∧ CutSound State.reset ∧ PlacesSound State.reset ∧ AnswersSound State.reset ∧
  TablesSound State.reset ∧ TrackerSound State.reset ∧ PhaseSound State.reset ∧ ListeningSound State.reset ∧
  ArrivalsSound State.reset ∧ EventsSound State.reset ∧ CopiesInRange State.reset ∧ LanesSound State.reset ∧
  HitsSound State.reset

end
end

