-- ==== Sys2Proof/Laws/State.lean ====
section
/-! SUPPORT. One lemma per field per update of State: the field an update names is changed by it, every other field is as it
was. And the same for the unit of one channel. -/
namespace Sys2Proof.Machine

variable (s : State)

/-! ## `State.onTracker` -/

@[simp] theorem State.onTracker_tracker (f : Tracker → Tracker) : (s.onTracker f).tracker = f s.tracker := rfl
@[simp] theorem State.onTracker_units (f : Tracker → Tracker) : (s.onTracker f).units = s.units := rfl
@[simp] theorem State.onTracker_assembler (f : Tracker → Tracker) : (s.onTracker f).assembler = s.assembler := rfl
@[simp] theorem State.onTracker_controller (f : Tracker → Tracker) : (s.onTracker f).controller = s.controller := rfl
@[simp] theorem State.onTracker_monitor (f : Tracker → Tracker) : (s.onTracker f).monitor = s.monitor := rfl
@[simp] theorem State.onTracker_staged (f : Tracker → Tracker) : (s.onTracker f).staged = s.staged := rfl
@[simp] theorem State.onTracker_active (f : Tracker → Tracker) : (s.onTracker f).active = s.active := rfl
@[simp] theorem State.onTracker_outlet (f : Tracker → Tracker) : (s.onTracker f).outlet = s.outlet := rfl
@[simp] theorem State.onTracker_responder (f : Tracker → Tracker) : (s.onTracker f).responder = s.responder := rfl
@[simp] theorem State.onTracker_faults (f : Tracker → Tracker) : (s.onTracker f).faults = s.faults := rfl
@[simp] theorem State.onTracker_ready (f : Tracker → Tracker) : (s.onTracker f).ready = s.ready := rfl
@[simp] theorem State.onTracker_freeDraws (f : Tracker → Tracker) : (s.onTracker f).freeDraws = s.freeDraws := rfl
@[simp] theorem State.onTracker_pending (f : Tracker → Tracker) : (s.onTracker f).pending = s.pending := rfl

/-! ## `State.onUnits` -/

@[simp] theorem State.onUnits_tracker (f : Vector ChannelUnit 32 → Vector ChannelUnit 32) : (s.onUnits f).tracker = s.tracker := rfl
@[simp] theorem State.onUnits_units (f : Vector ChannelUnit 32 → Vector ChannelUnit 32) : (s.onUnits f).units = f s.units := rfl
@[simp] theorem State.onUnits_assembler (f : Vector ChannelUnit 32 → Vector ChannelUnit 32) : (s.onUnits f).assembler = s.assembler := rfl
@[simp] theorem State.onUnits_controller (f : Vector ChannelUnit 32 → Vector ChannelUnit 32) : (s.onUnits f).controller = s.controller := rfl
@[simp] theorem State.onUnits_monitor (f : Vector ChannelUnit 32 → Vector ChannelUnit 32) : (s.onUnits f).monitor = s.monitor := rfl
@[simp] theorem State.onUnits_staged (f : Vector ChannelUnit 32 → Vector ChannelUnit 32) : (s.onUnits f).staged = s.staged := rfl
@[simp] theorem State.onUnits_active (f : Vector ChannelUnit 32 → Vector ChannelUnit 32) : (s.onUnits f).active = s.active := rfl
@[simp] theorem State.onUnits_outlet (f : Vector ChannelUnit 32 → Vector ChannelUnit 32) : (s.onUnits f).outlet = s.outlet := rfl
@[simp] theorem State.onUnits_responder (f : Vector ChannelUnit 32 → Vector ChannelUnit 32) : (s.onUnits f).responder = s.responder := rfl
@[simp] theorem State.onUnits_faults (f : Vector ChannelUnit 32 → Vector ChannelUnit 32) : (s.onUnits f).faults = s.faults := rfl
@[simp] theorem State.onUnits_ready (f : Vector ChannelUnit 32 → Vector ChannelUnit 32) : (s.onUnits f).ready = s.ready := rfl
@[simp] theorem State.onUnits_freeDraws (f : Vector ChannelUnit 32 → Vector ChannelUnit 32) : (s.onUnits f).freeDraws = s.freeDraws := rfl
@[simp] theorem State.onUnits_pending (f : Vector ChannelUnit 32 → Vector ChannelUnit 32) : (s.onUnits f).pending = s.pending := rfl

/-! ## `State.onAssembler` -/

@[simp] theorem State.onAssembler_tracker (f : Assembler → Assembler) : (s.onAssembler f).tracker = s.tracker := rfl
@[simp] theorem State.onAssembler_units (f : Assembler → Assembler) : (s.onAssembler f).units = s.units := rfl
@[simp] theorem State.onAssembler_assembler (f : Assembler → Assembler) : (s.onAssembler f).assembler = f s.assembler := rfl
@[simp] theorem State.onAssembler_controller (f : Assembler → Assembler) : (s.onAssembler f).controller = s.controller := rfl
@[simp] theorem State.onAssembler_monitor (f : Assembler → Assembler) : (s.onAssembler f).monitor = s.monitor := rfl
@[simp] theorem State.onAssembler_staged (f : Assembler → Assembler) : (s.onAssembler f).staged = s.staged := rfl
@[simp] theorem State.onAssembler_active (f : Assembler → Assembler) : (s.onAssembler f).active = s.active := rfl
@[simp] theorem State.onAssembler_outlet (f : Assembler → Assembler) : (s.onAssembler f).outlet = s.outlet := rfl
@[simp] theorem State.onAssembler_responder (f : Assembler → Assembler) : (s.onAssembler f).responder = s.responder := rfl
@[simp] theorem State.onAssembler_faults (f : Assembler → Assembler) : (s.onAssembler f).faults = s.faults := rfl
@[simp] theorem State.onAssembler_ready (f : Assembler → Assembler) : (s.onAssembler f).ready = s.ready := rfl
@[simp] theorem State.onAssembler_freeDraws (f : Assembler → Assembler) : (s.onAssembler f).freeDraws = s.freeDraws := rfl
@[simp] theorem State.onAssembler_pending (f : Assembler → Assembler) : (s.onAssembler f).pending = s.pending := rfl

/-! ## `State.onController` -/

@[simp] theorem State.onController_tracker (f : Controller → Controller) : (s.onController f).tracker = s.tracker := rfl
@[simp] theorem State.onController_units (f : Controller → Controller) : (s.onController f).units = s.units := rfl
@[simp] theorem State.onController_assembler (f : Controller → Controller) : (s.onController f).assembler = s.assembler := rfl
@[simp] theorem State.onController_controller (f : Controller → Controller) : (s.onController f).controller = f s.controller := rfl
@[simp] theorem State.onController_monitor (f : Controller → Controller) : (s.onController f).monitor = s.monitor := rfl
@[simp] theorem State.onController_staged (f : Controller → Controller) : (s.onController f).staged = s.staged := rfl
@[simp] theorem State.onController_active (f : Controller → Controller) : (s.onController f).active = s.active := rfl
@[simp] theorem State.onController_outlet (f : Controller → Controller) : (s.onController f).outlet = s.outlet := rfl
@[simp] theorem State.onController_responder (f : Controller → Controller) : (s.onController f).responder = s.responder := rfl
@[simp] theorem State.onController_faults (f : Controller → Controller) : (s.onController f).faults = s.faults := rfl
@[simp] theorem State.onController_ready (f : Controller → Controller) : (s.onController f).ready = s.ready := rfl
@[simp] theorem State.onController_freeDraws (f : Controller → Controller) : (s.onController f).freeDraws = s.freeDraws := rfl
@[simp] theorem State.onController_pending (f : Controller → Controller) : (s.onController f).pending = s.pending := rfl

/-! ## `State.onMonitor` -/

@[simp] theorem State.onMonitor_tracker (f : Monitor → Monitor) : (s.onMonitor f).tracker = s.tracker := rfl
@[simp] theorem State.onMonitor_units (f : Monitor → Monitor) : (s.onMonitor f).units = s.units := rfl
@[simp] theorem State.onMonitor_assembler (f : Monitor → Monitor) : (s.onMonitor f).assembler = s.assembler := rfl
@[simp] theorem State.onMonitor_controller (f : Monitor → Monitor) : (s.onMonitor f).controller = s.controller := rfl
@[simp] theorem State.onMonitor_monitor (f : Monitor → Monitor) : (s.onMonitor f).monitor = f s.monitor := rfl
@[simp] theorem State.onMonitor_staged (f : Monitor → Monitor) : (s.onMonitor f).staged = s.staged := rfl
@[simp] theorem State.onMonitor_active (f : Monitor → Monitor) : (s.onMonitor f).active = s.active := rfl
@[simp] theorem State.onMonitor_outlet (f : Monitor → Monitor) : (s.onMonitor f).outlet = s.outlet := rfl
@[simp] theorem State.onMonitor_responder (f : Monitor → Monitor) : (s.onMonitor f).responder = s.responder := rfl
@[simp] theorem State.onMonitor_faults (f : Monitor → Monitor) : (s.onMonitor f).faults = s.faults := rfl
@[simp] theorem State.onMonitor_ready (f : Monitor → Monitor) : (s.onMonitor f).ready = s.ready := rfl
@[simp] theorem State.onMonitor_freeDraws (f : Monitor → Monitor) : (s.onMonitor f).freeDraws = s.freeDraws := rfl
@[simp] theorem State.onMonitor_pending (f : Monitor → Monitor) : (s.onMonitor f).pending = s.pending := rfl

/-! ## `State.onStaged` -/

@[simp] theorem State.onStaged_tracker (f : Tables → Tables) : (s.onStaged f).tracker = s.tracker := rfl
@[simp] theorem State.onStaged_units (f : Tables → Tables) : (s.onStaged f).units = s.units := rfl
@[simp] theorem State.onStaged_assembler (f : Tables → Tables) : (s.onStaged f).assembler = s.assembler := rfl
@[simp] theorem State.onStaged_controller (f : Tables → Tables) : (s.onStaged f).controller = s.controller := rfl
@[simp] theorem State.onStaged_monitor (f : Tables → Tables) : (s.onStaged f).monitor = s.monitor := rfl
@[simp] theorem State.onStaged_staged (f : Tables → Tables) : (s.onStaged f).staged = f s.staged := rfl
@[simp] theorem State.onStaged_active (f : Tables → Tables) : (s.onStaged f).active = s.active := rfl
@[simp] theorem State.onStaged_outlet (f : Tables → Tables) : (s.onStaged f).outlet = s.outlet := rfl
@[simp] theorem State.onStaged_responder (f : Tables → Tables) : (s.onStaged f).responder = s.responder := rfl
@[simp] theorem State.onStaged_faults (f : Tables → Tables) : (s.onStaged f).faults = s.faults := rfl
@[simp] theorem State.onStaged_ready (f : Tables → Tables) : (s.onStaged f).ready = s.ready := rfl
@[simp] theorem State.onStaged_freeDraws (f : Tables → Tables) : (s.onStaged f).freeDraws = s.freeDraws := rfl
@[simp] theorem State.onStaged_pending (f : Tables → Tables) : (s.onStaged f).pending = s.pending := rfl

/-! ## `State.onActive` -/

@[simp] theorem State.onActive_tracker (f : Tables → Tables) : (s.onActive f).tracker = s.tracker := rfl
@[simp] theorem State.onActive_units (f : Tables → Tables) : (s.onActive f).units = s.units := rfl
@[simp] theorem State.onActive_assembler (f : Tables → Tables) : (s.onActive f).assembler = s.assembler := rfl
@[simp] theorem State.onActive_controller (f : Tables → Tables) : (s.onActive f).controller = s.controller := rfl
@[simp] theorem State.onActive_monitor (f : Tables → Tables) : (s.onActive f).monitor = s.monitor := rfl
@[simp] theorem State.onActive_staged (f : Tables → Tables) : (s.onActive f).staged = s.staged := rfl
@[simp] theorem State.onActive_active (f : Tables → Tables) : (s.onActive f).active = f s.active := rfl
@[simp] theorem State.onActive_outlet (f : Tables → Tables) : (s.onActive f).outlet = s.outlet := rfl
@[simp] theorem State.onActive_responder (f : Tables → Tables) : (s.onActive f).responder = s.responder := rfl
@[simp] theorem State.onActive_faults (f : Tables → Tables) : (s.onActive f).faults = s.faults := rfl
@[simp] theorem State.onActive_ready (f : Tables → Tables) : (s.onActive f).ready = s.ready := rfl
@[simp] theorem State.onActive_freeDraws (f : Tables → Tables) : (s.onActive f).freeDraws = s.freeDraws := rfl
@[simp] theorem State.onActive_pending (f : Tables → Tables) : (s.onActive f).pending = s.pending := rfl

/-! ## `State.onOutlet` -/

@[simp] theorem State.onOutlet_tracker (f : Outlet → Outlet) : (s.onOutlet f).tracker = s.tracker := rfl
@[simp] theorem State.onOutlet_units (f : Outlet → Outlet) : (s.onOutlet f).units = s.units := rfl
@[simp] theorem State.onOutlet_assembler (f : Outlet → Outlet) : (s.onOutlet f).assembler = s.assembler := rfl
@[simp] theorem State.onOutlet_controller (f : Outlet → Outlet) : (s.onOutlet f).controller = s.controller := rfl
@[simp] theorem State.onOutlet_monitor (f : Outlet → Outlet) : (s.onOutlet f).monitor = s.monitor := rfl
@[simp] theorem State.onOutlet_staged (f : Outlet → Outlet) : (s.onOutlet f).staged = s.staged := rfl
@[simp] theorem State.onOutlet_active (f : Outlet → Outlet) : (s.onOutlet f).active = s.active := rfl
@[simp] theorem State.onOutlet_outlet (f : Outlet → Outlet) : (s.onOutlet f).outlet = f s.outlet := rfl
@[simp] theorem State.onOutlet_responder (f : Outlet → Outlet) : (s.onOutlet f).responder = s.responder := rfl
@[simp] theorem State.onOutlet_faults (f : Outlet → Outlet) : (s.onOutlet f).faults = s.faults := rfl
@[simp] theorem State.onOutlet_ready (f : Outlet → Outlet) : (s.onOutlet f).ready = s.ready := rfl
@[simp] theorem State.onOutlet_freeDraws (f : Outlet → Outlet) : (s.onOutlet f).freeDraws = s.freeDraws := rfl
@[simp] theorem State.onOutlet_pending (f : Outlet → Outlet) : (s.onOutlet f).pending = s.pending := rfl

/-! ## `State.onResponder` -/

@[simp] theorem State.onResponder_tracker (f : Responder → Responder) : (s.onResponder f).tracker = s.tracker := rfl
@[simp] theorem State.onResponder_units (f : Responder → Responder) : (s.onResponder f).units = s.units := rfl
@[simp] theorem State.onResponder_assembler (f : Responder → Responder) : (s.onResponder f).assembler = s.assembler := rfl
@[simp] theorem State.onResponder_controller (f : Responder → Responder) : (s.onResponder f).controller = s.controller := rfl
@[simp] theorem State.onResponder_monitor (f : Responder → Responder) : (s.onResponder f).monitor = s.monitor := rfl
@[simp] theorem State.onResponder_staged (f : Responder → Responder) : (s.onResponder f).staged = s.staged := rfl
@[simp] theorem State.onResponder_active (f : Responder → Responder) : (s.onResponder f).active = s.active := rfl
@[simp] theorem State.onResponder_outlet (f : Responder → Responder) : (s.onResponder f).outlet = s.outlet := rfl
@[simp] theorem State.onResponder_responder (f : Responder → Responder) : (s.onResponder f).responder = f s.responder := rfl
@[simp] theorem State.onResponder_faults (f : Responder → Responder) : (s.onResponder f).faults = s.faults := rfl
@[simp] theorem State.onResponder_ready (f : Responder → Responder) : (s.onResponder f).ready = s.ready := rfl
@[simp] theorem State.onResponder_freeDraws (f : Responder → Responder) : (s.onResponder f).freeDraws = s.freeDraws := rfl
@[simp] theorem State.onResponder_pending (f : Responder → Responder) : (s.onResponder f).pending = s.pending := rfl

/-! ## `State.onFaults` -/

@[simp] theorem State.onFaults_tracker (f : FaultUnit → FaultUnit) : (s.onFaults f).tracker = s.tracker := rfl
@[simp] theorem State.onFaults_units (f : FaultUnit → FaultUnit) : (s.onFaults f).units = s.units := rfl
@[simp] theorem State.onFaults_assembler (f : FaultUnit → FaultUnit) : (s.onFaults f).assembler = s.assembler := rfl
@[simp] theorem State.onFaults_controller (f : FaultUnit → FaultUnit) : (s.onFaults f).controller = s.controller := rfl
@[simp] theorem State.onFaults_monitor (f : FaultUnit → FaultUnit) : (s.onFaults f).monitor = s.monitor := rfl
@[simp] theorem State.onFaults_staged (f : FaultUnit → FaultUnit) : (s.onFaults f).staged = s.staged := rfl
@[simp] theorem State.onFaults_active (f : FaultUnit → FaultUnit) : (s.onFaults f).active = s.active := rfl
@[simp] theorem State.onFaults_outlet (f : FaultUnit → FaultUnit) : (s.onFaults f).outlet = s.outlet := rfl
@[simp] theorem State.onFaults_responder (f : FaultUnit → FaultUnit) : (s.onFaults f).responder = s.responder := rfl
@[simp] theorem State.onFaults_faults (f : FaultUnit → FaultUnit) : (s.onFaults f).faults = f s.faults := rfl
@[simp] theorem State.onFaults_ready (f : FaultUnit → FaultUnit) : (s.onFaults f).ready = s.ready := rfl
@[simp] theorem State.onFaults_freeDraws (f : FaultUnit → FaultUnit) : (s.onFaults f).freeDraws = s.freeDraws := rfl
@[simp] theorem State.onFaults_pending (f : FaultUnit → FaultUnit) : (s.onFaults f).pending = s.pending := rfl

/-! ## `State.withReady` -/

@[simp] theorem State.withReady_tracker (b : Bool) : (s.withReady b).tracker = s.tracker := rfl
@[simp] theorem State.withReady_units (b : Bool) : (s.withReady b).units = s.units := rfl
@[simp] theorem State.withReady_assembler (b : Bool) : (s.withReady b).assembler = s.assembler := rfl
@[simp] theorem State.withReady_controller (b : Bool) : (s.withReady b).controller = s.controller := rfl
@[simp] theorem State.withReady_monitor (b : Bool) : (s.withReady b).monitor = s.monitor := rfl
@[simp] theorem State.withReady_staged (b : Bool) : (s.withReady b).staged = s.staged := rfl
@[simp] theorem State.withReady_active (b : Bool) : (s.withReady b).active = s.active := rfl
@[simp] theorem State.withReady_outlet (b : Bool) : (s.withReady b).outlet = s.outlet := rfl
@[simp] theorem State.withReady_responder (b : Bool) : (s.withReady b).responder = s.responder := rfl
@[simp] theorem State.withReady_faults (b : Bool) : (s.withReady b).faults = s.faults := rfl
@[simp] theorem State.withReady_ready (b : Bool) : (s.withReady b).ready = b := rfl
@[simp] theorem State.withReady_freeDraws (b : Bool) : (s.withReady b).freeDraws = s.freeDraws := rfl
@[simp] theorem State.withReady_pending (b : Bool) : (s.withReady b).pending = s.pending := rfl

/-! ## `State.withDraws` -/

@[simp] theorem State.withDraws_tracker (n : Nat) : (s.withDraws n).tracker = s.tracker := rfl
@[simp] theorem State.withDraws_units (n : Nat) : (s.withDraws n).units = s.units := rfl
@[simp] theorem State.withDraws_assembler (n : Nat) : (s.withDraws n).assembler = s.assembler := rfl
@[simp] theorem State.withDraws_controller (n : Nat) : (s.withDraws n).controller = s.controller := rfl
@[simp] theorem State.withDraws_monitor (n : Nat) : (s.withDraws n).monitor = s.monitor := rfl
@[simp] theorem State.withDraws_staged (n : Nat) : (s.withDraws n).staged = s.staged := rfl
@[simp] theorem State.withDraws_active (n : Nat) : (s.withDraws n).active = s.active := rfl
@[simp] theorem State.withDraws_outlet (n : Nat) : (s.withDraws n).outlet = s.outlet := rfl
@[simp] theorem State.withDraws_responder (n : Nat) : (s.withDraws n).responder = s.responder := rfl
@[simp] theorem State.withDraws_faults (n : Nat) : (s.withDraws n).faults = s.faults := rfl
@[simp] theorem State.withDraws_ready (n : Nat) : (s.withDraws n).ready = s.ready := rfl
@[simp] theorem State.withDraws_freeDraws (n : Nat) : (s.withDraws n).freeDraws = n := rfl
@[simp] theorem State.withDraws_pending (n : Nat) : (s.withDraws n).pending = s.pending := rfl

/-! ## `State.withPending` -/

@[simp] theorem State.withPending_tracker (q : List Instr) : (s.withPending q).tracker = s.tracker := rfl
@[simp] theorem State.withPending_units (q : List Instr) : (s.withPending q).units = s.units := rfl
@[simp] theorem State.withPending_assembler (q : List Instr) : (s.withPending q).assembler = s.assembler := rfl
@[simp] theorem State.withPending_controller (q : List Instr) : (s.withPending q).controller = s.controller := rfl
@[simp] theorem State.withPending_monitor (q : List Instr) : (s.withPending q).monitor = s.monitor := rfl
@[simp] theorem State.withPending_staged (q : List Instr) : (s.withPending q).staged = s.staged := rfl
@[simp] theorem State.withPending_active (q : List Instr) : (s.withPending q).active = s.active := rfl
@[simp] theorem State.withPending_outlet (q : List Instr) : (s.withPending q).outlet = s.outlet := rfl
@[simp] theorem State.withPending_responder (q : List Instr) : (s.withPending q).responder = s.responder := rfl
@[simp] theorem State.withPending_faults (q : List Instr) : (s.withPending q).faults = s.faults := rfl
@[simp] theorem State.withPending_ready (q : List Instr) : (s.withPending q).ready = s.ready := rfl
@[simp] theorem State.withPending_freeDraws (q : List Instr) : (s.withPending q).freeDraws = s.freeDraws := rfl
@[simp] theorem State.withPending_pending (q : List Instr) : (s.withPending q).pending = q := rfl

/-! ## `State.onUnit` -/

@[simp] theorem State.onUnit_tracker (c : Chan) (f : ChannelUnit → ChannelUnit) : (s.onUnit c f).tracker = s.tracker := rfl
@[simp] theorem State.onUnit_assembler (c : Chan) (f : ChannelUnit → ChannelUnit) : (s.onUnit c f).assembler = s.assembler := rfl
@[simp] theorem State.onUnit_controller (c : Chan) (f : ChannelUnit → ChannelUnit) : (s.onUnit c f).controller = s.controller := rfl
@[simp] theorem State.onUnit_monitor (c : Chan) (f : ChannelUnit → ChannelUnit) : (s.onUnit c f).monitor = s.monitor := rfl
@[simp] theorem State.onUnit_staged (c : Chan) (f : ChannelUnit → ChannelUnit) : (s.onUnit c f).staged = s.staged := rfl
@[simp] theorem State.onUnit_active (c : Chan) (f : ChannelUnit → ChannelUnit) : (s.onUnit c f).active = s.active := rfl
@[simp] theorem State.onUnit_outlet (c : Chan) (f : ChannelUnit → ChannelUnit) : (s.onUnit c f).outlet = s.outlet := rfl
@[simp] theorem State.onUnit_responder (c : Chan) (f : ChannelUnit → ChannelUnit) : (s.onUnit c f).responder = s.responder := rfl
@[simp] theorem State.onUnit_faults (c : Chan) (f : ChannelUnit → ChannelUnit) : (s.onUnit c f).faults = s.faults := rfl
@[simp] theorem State.onUnit_ready (c : Chan) (f : ChannelUnit → ChannelUnit) : (s.onUnit c f).ready = s.ready := rfl
@[simp] theorem State.onUnit_freeDraws (c : Chan) (f : ChannelUnit → ChannelUnit) : (s.onUnit c f).freeDraws = s.freeDraws := rfl
@[simp] theorem State.onUnit_pending (c : Chan) (f : ChannelUnit → ChannelUnit) : (s.onUnit c f).pending = s.pending := rfl

@[simp] theorem State.onUnit_units_self (c : Chan) (f : ChannelUnit → ChannelUnit) :
    (s.onUnit c f).units[c.val] = f s.units[c.val] := by
  simp [State.onUnit]

@[simp] theorem State.onUnit_units_ne {c d : Chan} (f : ChannelUnit → ChannelUnit) (h : c ≠ d) :
    (s.onUnit c f).units[d.val] = s.units[d.val] := by
  have : c.val ≠ d.val := fun e => h (Fin.ext e)
  simp [State.onUnit, this]

/-- The unit of any channel after an update of the unit of channel `c`. -/
theorem State.onUnit_units (c d : Chan) (f : ChannelUnit → ChannelUnit) :
    (s.onUnit c f).units[d.val] = if c = d then f s.units[d.val] else s.units[d.val] := by
  by_cases h : c = d
  · subst h; simp
  · simp [h]

/-- Two updates of one unit in a row are one. -/
theorem State.onUnit_onUnit (c : Chan) (f g : ChannelUnit → ChannelUnit) :
    (s.onUnit c f).onUnit c g = s.onUnit c fun u => g (f u) := by
  simp [State.onUnit, State.onUnits]

/-- Two states that agree on every field are one. -/
theorem State.eq_of_fields {s t : State} (h1 : s.tracker = t.tracker) (h2 : s.units = t.units)
    (h3 : s.assembler = t.assembler) (h4 : s.controller = t.controller) (h5 : s.monitor = t.monitor)
    (h6 : s.staged = t.staged) (h7 : s.active = t.active) (h8 : s.outlet = t.outlet) (h9 : s.responder = t.responder)
    (h10 : s.faults = t.faults) (h11 : s.ready = t.ready) (h12 : s.freeDraws = t.freeDraws)
    (h13 : s.pending = t.pending) : s = t := by
  cases s; cases t; simp_all

end Sys2Proof.Machine
end

