-- ==== Sys2Proof/Laws/Ops.lean ====
section
/-! SUPPORT. What the shared operations of Machine/Ops.lean can do, said once each: the arbiter, offers and raises, answers.
`Reported s t` says that `t` differs from `s` only in the outlet, the test counters and marks, and the condition flags: the
whole reach of an offer, a raise or an answer. -/
namespace Sys2Proof.Machine

/-! ## Lists of places -/

@[simp] theorem mapVec_getElem {α β : Type} {n : Nat} (f : α → β) (v : Vector α n) (i : Nat) (h : i < n) :
    (mapVec f v)[i] = f v[i] := by
  simp [mapVec]

theorem mem_allChans (c : Chan) : c ∈ allChans := List.mem_finRange c

theorem mem_allCards (k : Card) : k ∈ allCards := List.mem_finRange k

theorem mem_allSlots (i : Fin 8) : i ∈ allSlots := List.mem_finRange i

/-! ## The reach of a report -/

/-- `t` is `s` but for the outlet, the test counters and marks, and the condition flags. -/
structure Reported (s t : State) : Prop where
  tracker : t.tracker = s.tracker
  units : t.units = s.units
  assembler : t.assembler = s.assembler
  controller : ∃ k m0 m1, t.controller = { s.controller with counters := k, mark0 := m0, mark1 := m1 }
  monitor : t.monitor = s.monitor
  staged : t.staged = s.staged
  active : t.active = s.active
  responder : t.responder = s.responder
  halted : t.faults.halted = s.faults.halted
  ready : t.ready = s.ready
  freeDraws : t.freeDraws = s.freeDraws
  pending : t.pending = s.pending

theorem Reported.refl (s : State) : Reported s s :=
  ⟨rfl, rfl, rfl, ⟨_, _, _, rfl⟩, rfl, rfl, rfl, rfl, rfl, rfl, rfl, rfl⟩

theorem Reported.trans {s t u : State} (h : Reported s t) (g : Reported t u) : Reported s u := by
  obtain ⟨k, m0, m1, hc⟩ := h.controller
  obtain ⟨k', m0', m1', gc⟩ := g.controller
  exact ⟨g.tracker.trans h.tracker, g.units.trans h.units, g.assembler.trans h.assembler,
    ⟨k', m0', m1', by rw [gc, hc]⟩, g.monitor.trans h.monitor, g.staged.trans h.staged, g.active.trans h.active,
    g.responder.trans h.responder, g.halted.trans h.halted, g.ready.trans h.ready, g.freeDraws.trans h.freeDraws,
    g.pending.trans h.pending⟩

theorem Reported.onOutlet (s : State) (f : Outlet → Outlet) : Reported s (s.onOutlet f) :=
  ⟨rfl, rfl, rfl, ⟨_, _, _, rfl⟩, rfl, rfl, rfl, rfl, rfl, rfl, rfl, rfl⟩

theorem Reported.arbitrate (s : State) : Reported s (arbitrate s) := by
  unfold Machine.arbitrate
  split
  · exact .onOutlet s _
  · exact .refl s

theorem Reported.onCounters (f : Counters → Counters) (s : State) : Reported s (onCounters f s) :=
  ⟨rfl, rfl, rfl, ⟨_, _, _, rfl⟩, rfl, rfl, rfl, rfl, rfl, rfl, rfl, rfl⟩

theorem Reported.setMarks (p : MarkSpec → Bool) (s : State) : Reported s (setMarks p s) :=
  ⟨rfl, rfl, rfl, ⟨_, _, _, rfl⟩, rfl, rfl, rfl, rfl, rfl, rfl, rfl, rfl⟩

theorem Reported.pushRecord (r : Record) (s : State) : Reported s (pushRecord r s) := .onOutlet s _

theorem Reported.raiseWith {offer : Record → State → State} (h : ∀ r s, Reported s (offer r s)) (c : Condition)
    (s : State) : Reported s (raiseWith offer c s) := by
  have pend (u : State) (p : CondSet) : Reported u (u.onFaults fun x => { x with pendingSet := p }) :=
    ⟨rfl, rfl, rfl, ⟨_, _, _, rfl⟩, rfl, rfl, rfl, rfl, rfl, rfl, rfl, rfl⟩
  have seen (u : State) : Reported u (u.onFaults fun x => { x with seenSet := x.seenSet.insert c }) :=
    ⟨rfl, rfl, rfl, ⟨_, _, _, rfl⟩, rfl, rfl, rfl, rfl, rfl, rfl, rfl, rfl⟩
  unfold Machine.raiseWith
  split
  · exact .refl s
  · dsimp only
    split
    · split
      · exact ((pend s _).trans (h _ _)).trans (seen _)
      · exact (pend s _).trans (h _ _)
    · exact pend s _

theorem Reported.enterDense {offer : Record → State → State} (h : ∀ r s, Reported s (offer r s)) (s : State) :
    Reported s (enterDense offer s) :=
  ((Reported.onOutlet s _).trans (.setMarks _ _)).trans (.raiseWith h _ _)

theorem Reported.offerDepth (d : Nat) : ∀ (r : Record) (s : State), Reported s (offerDepth d r s) := by
  induction d with
  | zero => exact fun _ s => .refl s
  | succ d ih =>
    intro r s
    unfold Machine.offerDepth
    split
    · exact .refl s
    · exact .onCounters _ s
    · exact (Reported.onCounters _ s).trans (.raiseWith ih _ _)
    · dsimp only
      split
      · exact (Reported.pushRecord r s).trans (.enterDense ih _)
      · exact .pushRecord r s

/-- An offer reaches no further than the outlet, the counters and marks, and the condition flags (R145 to R149). -/
theorem Reported.offerRecord (r : Record) (s : State) : Reported s (offerRecord r s) :=
  (Reported.offerDepth 3 r s).trans (.arbitrate _)

/-- Nor does a raise (R167). -/
theorem Reported.raise (c : Condition) (s : State) : Reported s (raise c s) :=
  (Reported.raiseWith (Reported.offerDepth 3) c s).trans (.arbitrate _)

theorem Reported.countUnassociated (s : State) : Reported s (countUnassociated s) := .onCounters _ s

/-- Nor does a pass-through offer (R147). -/
theorem Reported.offerPass (p : PassFrame) (s : State) : Reported s (offerPass p s) := by
  unfold Machine.offerPass
  split
  · exact .refl s
  · split
    · exact (Reported.onCounters _ s).trans (.raise _ _)
    · exact (Reported.onOutlet s _).trans (.arbitrate _)

/-- An answer reaches no further than the outlet (R144). -/
theorem Reported.answer (a : Answer) (s : State) : Reported s (answer a s) :=
  (Reported.onOutlet s _).trans (.arbitrate _)

theorem Reported.answerEach (as : List Answer) : ∀ s : State, Reported s (answerEach as s) := by
  induction as with
  | nil => exact fun s => .refl s
  | cons a as ih => exact fun s => (Reported.answer a s).trans (ih _)

theorem Reported.settleTaken (s : State) : Reported s (settleTaken s) := .onOutlet s _

/-- The controller's fields that no report moves. -/
theorem Reported.controller_fields {s t : State} (h : Reported s t) :
    t.controller.phase = s.controller.phase ∧
    t.controller.mutedFrom = s.controller.mutedFrom ∧
    t.controller.queue = s.controller.queue ∧
    t.controller.stalled = s.controller.stalled ∧
    t.controller.phaseEvents = s.controller.phaseEvents ∧
    t.controller.ruptured = s.controller.ruptured ∧
    t.controller.ramp = s.controller.ramp ∧
    t.controller.lastRamp = s.controller.lastRamp ∧
    t.controller.unloadNoted = s.controller.unloadNoted ∧
    t.controller.hold = s.controller.hold := by
  obtain ⟨k, m0, m1, hc⟩ := h.controller
  simp [hc]

theorem Reported.phase {s t : State} (h : Reported s t) : t.controller.phase = s.controller.phase := by
  simp [h.controller_fields]
theorem Reported.mutedFrom {s t : State} (h : Reported s t) : t.controller.mutedFrom = s.controller.mutedFrom := by
  simp [h.controller_fields]
theorem Reported.queue {s t : State} (h : Reported s t) : t.controller.queue = s.controller.queue := by
  simp [h.controller_fields]
theorem Reported.stalled {s t : State} (h : Reported s t) : t.controller.stalled = s.controller.stalled := by
  simp [h.controller_fields]
theorem Reported.phaseEvents {s t : State} (h : Reported s t) : t.controller.phaseEvents = s.controller.phaseEvents := by
  simp [h.controller_fields]
theorem Reported.ruptured {s t : State} (h : Reported s t) : t.controller.ruptured = s.controller.ruptured := by
  simp [h.controller_fields]
theorem Reported.ramp {s t : State} (h : Reported s t) : t.controller.ramp = s.controller.ramp := by
  simp [h.controller_fields]
theorem Reported.lastRamp {s t : State} (h : Reported s t) : t.controller.lastRamp = s.controller.lastRamp := by
  simp [h.controller_fields]
theorem Reported.unloadNoted {s t : State} (h : Reported s t) : t.controller.unloadNoted = s.controller.unloadNoted := by
  simp [h.controller_fields]
theorem Reported.hold {s t : State} (h : Reported s t) : t.controller.hold = s.controller.hold := by
  simp [h.controller_fields]

/-! ## What `arbitrate` leaves -/

@[simp] theorem arbitrate_tracker (s : State) : (arbitrate s).tracker = s.tracker := (Reported.arbitrate s).tracker
@[simp] theorem arbitrate_units (s : State) : (arbitrate s).units = s.units := (Reported.arbitrate s).units
@[simp] theorem arbitrate_assembler (s : State) : (arbitrate s).assembler = s.assembler := (Reported.arbitrate s).assembler
@[simp] theorem arbitrate_monitor (s : State) : (arbitrate s).monitor = s.monitor := (Reported.arbitrate s).monitor
@[simp] theorem arbitrate_staged (s : State) : (arbitrate s).staged = s.staged := (Reported.arbitrate s).staged
@[simp] theorem arbitrate_active (s : State) : (arbitrate s).active = s.active := (Reported.arbitrate s).active
@[simp] theorem arbitrate_responder (s : State) : (arbitrate s).responder = s.responder := (Reported.arbitrate s).responder
@[simp] theorem arbitrate_ready (s : State) : (arbitrate s).ready = s.ready := (Reported.arbitrate s).ready
@[simp] theorem arbitrate_freeDraws (s : State) : (arbitrate s).freeDraws = s.freeDraws := (Reported.arbitrate s).freeDraws
@[simp] theorem arbitrate_pending (s : State) : (arbitrate s).pending = s.pending := (Reported.arbitrate s).pending
@[simp] theorem arbitrate_phase (s : State) : (arbitrate s).controller.phase = s.controller.phase :=
  (Reported.arbitrate s).phase
@[simp] theorem arbitrate_mutedFrom (s : State) : (arbitrate s).controller.mutedFrom = s.controller.mutedFrom :=
  (Reported.arbitrate s).mutedFrom
@[simp] theorem arbitrate_queue (s : State) : (arbitrate s).controller.queue = s.controller.queue :=
  (Reported.arbitrate s).queue
@[simp] theorem arbitrate_stalled (s : State) : (arbitrate s).controller.stalled = s.controller.stalled :=
  (Reported.arbitrate s).stalled
@[simp] theorem arbitrate_phaseEvents (s : State) : (arbitrate s).controller.phaseEvents = s.controller.phaseEvents :=
  (Reported.arbitrate s).phaseEvents
@[simp] theorem arbitrate_ruptured (s : State) : (arbitrate s).controller.ruptured = s.controller.ruptured :=
  (Reported.arbitrate s).ruptured
@[simp] theorem arbitrate_ramp (s : State) : (arbitrate s).controller.ramp = s.controller.ramp :=
  (Reported.arbitrate s).ramp
@[simp] theorem arbitrate_lastRamp (s : State) : (arbitrate s).controller.lastRamp = s.controller.lastRamp :=
  (Reported.arbitrate s).lastRamp
@[simp] theorem arbitrate_unloadNoted (s : State) : (arbitrate s).controller.unloadNoted = s.controller.unloadNoted :=
  (Reported.arbitrate s).unloadNoted
@[simp] theorem arbitrate_hold (s : State) : (arbitrate s).controller.hold = s.controller.hold :=
  (Reported.arbitrate s).hold
@[simp] theorem arbitrate_halted (s : State) : (arbitrate s).faults.halted = s.faults.halted :=
  (Reported.arbitrate s).halted

/-! ## What `offerRecord` leaves -/

@[simp] theorem offerRecord_tracker (r : Record) (s : State) : (offerRecord r s).tracker = s.tracker := (Reported.offerRecord r s).tracker
@[simp] theorem offerRecord_units (r : Record) (s : State) : (offerRecord r s).units = s.units := (Reported.offerRecord r s).units
@[simp] theorem offerRecord_assembler (r : Record) (s : State) : (offerRecord r s).assembler = s.assembler := (Reported.offerRecord r s).assembler
@[simp] theorem offerRecord_monitor (r : Record) (s : State) : (offerRecord r s).monitor = s.monitor := (Reported.offerRecord r s).monitor
@[simp] theorem offerRecord_staged (r : Record) (s : State) : (offerRecord r s).staged = s.staged := (Reported.offerRecord r s).staged
@[simp] theorem offerRecord_active (r : Record) (s : State) : (offerRecord r s).active = s.active := (Reported.offerRecord r s).active
@[simp] theorem offerRecord_responder (r : Record) (s : State) : (offerRecord r s).responder = s.responder := (Reported.offerRecord r s).responder
@[simp] theorem offerRecord_ready (r : Record) (s : State) : (offerRecord r s).ready = s.ready := (Reported.offerRecord r s).ready
@[simp] theorem offerRecord_freeDraws (r : Record) (s : State) : (offerRecord r s).freeDraws = s.freeDraws := (Reported.offerRecord r s).freeDraws
@[simp] theorem offerRecord_pending (r : Record) (s : State) : (offerRecord r s).pending = s.pending := (Reported.offerRecord r s).pending
@[simp] theorem offerRecord_phase (r : Record) (s : State) : (offerRecord r s).controller.phase = s.controller.phase :=
  (Reported.offerRecord r s).phase
@[simp] theorem offerRecord_mutedFrom (r : Record) (s : State) : (offerRecord r s).controller.mutedFrom = s.controller.mutedFrom :=
  (Reported.offerRecord r s).mutedFrom
@[simp] theorem offerRecord_queue (r : Record) (s : State) : (offerRecord r s).controller.queue = s.controller.queue :=
  (Reported.offerRecord r s).queue
@[simp] theorem offerRecord_stalled (r : Record) (s : State) : (offerRecord r s).controller.stalled = s.controller.stalled :=
  (Reported.offerRecord r s).stalled
@[simp] theorem offerRecord_phaseEvents (r : Record) (s : State) : (offerRecord r s).controller.phaseEvents = s.controller.phaseEvents :=
  (Reported.offerRecord r s).phaseEvents
@[simp] theorem offerRecord_ruptured (r : Record) (s : State) : (offerRecord r s).controller.ruptured = s.controller.ruptured :=
  (Reported.offerRecord r s).ruptured
@[simp] theorem offerRecord_ramp (r : Record) (s : State) : (offerRecord r s).controller.ramp = s.controller.ramp :=
  (Reported.offerRecord r s).ramp
@[simp] theorem offerRecord_lastRamp (r : Record) (s : State) : (offerRecord r s).controller.lastRamp = s.controller.lastRamp :=
  (Reported.offerRecord r s).lastRamp
@[simp] theorem offerRecord_unloadNoted (r : Record) (s : State) : (offerRecord r s).controller.unloadNoted = s.controller.unloadNoted :=
  (Reported.offerRecord r s).unloadNoted
@[simp] theorem offerRecord_hold (r : Record) (s : State) : (offerRecord r s).controller.hold = s.controller.hold :=
  (Reported.offerRecord r s).hold
@[simp] theorem offerRecord_halted (r : Record) (s : State) : (offerRecord r s).faults.halted = s.faults.halted :=
  (Reported.offerRecord r s).halted

/-! ## What `raise` leaves -/

@[simp] theorem raise_tracker (c : Condition) (s : State) : (raise c s).tracker = s.tracker := (Reported.raise c s).tracker
@[simp] theorem raise_units (c : Condition) (s : State) : (raise c s).units = s.units := (Reported.raise c s).units
@[simp] theorem raise_assembler (c : Condition) (s : State) : (raise c s).assembler = s.assembler := (Reported.raise c s).assembler
@[simp] theorem raise_monitor (c : Condition) (s : State) : (raise c s).monitor = s.monitor := (Reported.raise c s).monitor
@[simp] theorem raise_staged (c : Condition) (s : State) : (raise c s).staged = s.staged := (Reported.raise c s).staged
@[simp] theorem raise_active (c : Condition) (s : State) : (raise c s).active = s.active := (Reported.raise c s).active
@[simp] theorem raise_responder (c : Condition) (s : State) : (raise c s).responder = s.responder := (Reported.raise c s).responder
@[simp] theorem raise_ready (c : Condition) (s : State) : (raise c s).ready = s.ready := (Reported.raise c s).ready
@[simp] theorem raise_freeDraws (c : Condition) (s : State) : (raise c s).freeDraws = s.freeDraws := (Reported.raise c s).freeDraws
@[simp] theorem raise_pending (c : Condition) (s : State) : (raise c s).pending = s.pending := (Reported.raise c s).pending
@[simp] theorem raise_phase (c : Condition) (s : State) : (raise c s).controller.phase = s.controller.phase :=
  (Reported.raise c s).phase
@[simp] theorem raise_mutedFrom (c : Condition) (s : State) : (raise c s).controller.mutedFrom = s.controller.mutedFrom :=
  (Reported.raise c s).mutedFrom
@[simp] theorem raise_queue (c : Condition) (s : State) : (raise c s).controller.queue = s.controller.queue :=
  (Reported.raise c s).queue
@[simp] theorem raise_stalled (c : Condition) (s : State) : (raise c s).controller.stalled = s.controller.stalled :=
  (Reported.raise c s).stalled
@[simp] theorem raise_phaseEvents (c : Condition) (s : State) : (raise c s).controller.phaseEvents = s.controller.phaseEvents :=
  (Reported.raise c s).phaseEvents
@[simp] theorem raise_ruptured (c : Condition) (s : State) : (raise c s).controller.ruptured = s.controller.ruptured :=
  (Reported.raise c s).ruptured
@[simp] theorem raise_ramp (c : Condition) (s : State) : (raise c s).controller.ramp = s.controller.ramp :=
  (Reported.raise c s).ramp
@[simp] theorem raise_lastRamp (c : Condition) (s : State) : (raise c s).controller.lastRamp = s.controller.lastRamp :=
  (Reported.raise c s).lastRamp
@[simp] theorem raise_unloadNoted (c : Condition) (s : State) : (raise c s).controller.unloadNoted = s.controller.unloadNoted :=
  (Reported.raise c s).unloadNoted
@[simp] theorem raise_hold (c : Condition) (s : State) : (raise c s).controller.hold = s.controller.hold :=
  (Reported.raise c s).hold
@[simp] theorem raise_halted (c : Condition) (s : State) : (raise c s).faults.halted = s.faults.halted :=
  (Reported.raise c s).halted

/-! ## What `onCounters` leaves -/

@[simp] theorem onCounters_tracker (f : Counters → Counters) (s : State) : (onCounters f s).tracker = s.tracker := (Reported.onCounters f s).tracker
@[simp] theorem onCounters_units (f : Counters → Counters) (s : State) : (onCounters f s).units = s.units := (Reported.onCounters f s).units
@[simp] theorem onCounters_assembler (f : Counters → Counters) (s : State) : (onCounters f s).assembler = s.assembler := (Reported.onCounters f s).assembler
@[simp] theorem onCounters_monitor (f : Counters → Counters) (s : State) : (onCounters f s).monitor = s.monitor := (Reported.onCounters f s).monitor
@[simp] theorem onCounters_staged (f : Counters → Counters) (s : State) : (onCounters f s).staged = s.staged := (Reported.onCounters f s).staged
@[simp] theorem onCounters_active (f : Counters → Counters) (s : State) : (onCounters f s).active = s.active := (Reported.onCounters f s).active
@[simp] theorem onCounters_responder (f : Counters → Counters) (s : State) : (onCounters f s).responder = s.responder := (Reported.onCounters f s).responder
@[simp] theorem onCounters_ready (f : Counters → Counters) (s : State) : (onCounters f s).ready = s.ready := (Reported.onCounters f s).ready
@[simp] theorem onCounters_freeDraws (f : Counters → Counters) (s : State) : (onCounters f s).freeDraws = s.freeDraws := (Reported.onCounters f s).freeDraws
@[simp] theorem onCounters_pending (f : Counters → Counters) (s : State) : (onCounters f s).pending = s.pending := (Reported.onCounters f s).pending
@[simp] theorem onCounters_phase (f : Counters → Counters) (s : State) : (onCounters f s).controller.phase = s.controller.phase :=
  (Reported.onCounters f s).phase
@[simp] theorem onCounters_mutedFrom (f : Counters → Counters) (s : State) : (onCounters f s).controller.mutedFrom = s.controller.mutedFrom :=
  (Reported.onCounters f s).mutedFrom
@[simp] theorem onCounters_queue (f : Counters → Counters) (s : State) : (onCounters f s).controller.queue = s.controller.queue :=
  (Reported.onCounters f s).queue
@[simp] theorem onCounters_stalled (f : Counters → Counters) (s : State) : (onCounters f s).controller.stalled = s.controller.stalled :=
  (Reported.onCounters f s).stalled
@[simp] theorem onCounters_phaseEvents (f : Counters → Counters) (s : State) : (onCounters f s).controller.phaseEvents = s.controller.phaseEvents :=
  (Reported.onCounters f s).phaseEvents
@[simp] theorem onCounters_ruptured (f : Counters → Counters) (s : State) : (onCounters f s).controller.ruptured = s.controller.ruptured :=
  (Reported.onCounters f s).ruptured
@[simp] theorem onCounters_ramp (f : Counters → Counters) (s : State) : (onCounters f s).controller.ramp = s.controller.ramp :=
  (Reported.onCounters f s).ramp
@[simp] theorem onCounters_lastRamp (f : Counters → Counters) (s : State) : (onCounters f s).controller.lastRamp = s.controller.lastRamp :=
  (Reported.onCounters f s).lastRamp
@[simp] theorem onCounters_unloadNoted (f : Counters → Counters) (s : State) : (onCounters f s).controller.unloadNoted = s.controller.unloadNoted :=
  (Reported.onCounters f s).unloadNoted
@[simp] theorem onCounters_hold (f : Counters → Counters) (s : State) : (onCounters f s).controller.hold = s.controller.hold :=
  (Reported.onCounters f s).hold
@[simp] theorem onCounters_halted (f : Counters → Counters) (s : State) : (onCounters f s).faults.halted = s.faults.halted :=
  (Reported.onCounters f s).halted

/-! ## What `setMarks` leaves -/

@[simp] theorem setMarks_tracker (p : MarkSpec → Bool) (s : State) : (setMarks p s).tracker = s.tracker := (Reported.setMarks p s).tracker
@[simp] theorem setMarks_units (p : MarkSpec → Bool) (s : State) : (setMarks p s).units = s.units := (Reported.setMarks p s).units
@[simp] theorem setMarks_assembler (p : MarkSpec → Bool) (s : State) : (setMarks p s).assembler = s.assembler := (Reported.setMarks p s).assembler
@[simp] theorem setMarks_monitor (p : MarkSpec → Bool) (s : State) : (setMarks p s).monitor = s.monitor := (Reported.setMarks p s).monitor
@[simp] theorem setMarks_staged (p : MarkSpec → Bool) (s : State) : (setMarks p s).staged = s.staged := (Reported.setMarks p s).staged
@[simp] theorem setMarks_active (p : MarkSpec → Bool) (s : State) : (setMarks p s).active = s.active := (Reported.setMarks p s).active
@[simp] theorem setMarks_responder (p : MarkSpec → Bool) (s : State) : (setMarks p s).responder = s.responder := (Reported.setMarks p s).responder
@[simp] theorem setMarks_ready (p : MarkSpec → Bool) (s : State) : (setMarks p s).ready = s.ready := (Reported.setMarks p s).ready
@[simp] theorem setMarks_freeDraws (p : MarkSpec → Bool) (s : State) : (setMarks p s).freeDraws = s.freeDraws := (Reported.setMarks p s).freeDraws
@[simp] theorem setMarks_pending (p : MarkSpec → Bool) (s : State) : (setMarks p s).pending = s.pending := (Reported.setMarks p s).pending
@[simp] theorem setMarks_phase (p : MarkSpec → Bool) (s : State) : (setMarks p s).controller.phase = s.controller.phase :=
  (Reported.setMarks p s).phase
@[simp] theorem setMarks_mutedFrom (p : MarkSpec → Bool) (s : State) : (setMarks p s).controller.mutedFrom = s.controller.mutedFrom :=
  (Reported.setMarks p s).mutedFrom
@[simp] theorem setMarks_queue (p : MarkSpec → Bool) (s : State) : (setMarks p s).controller.queue = s.controller.queue :=
  (Reported.setMarks p s).queue
@[simp] theorem setMarks_stalled (p : MarkSpec → Bool) (s : State) : (setMarks p s).controller.stalled = s.controller.stalled :=
  (Reported.setMarks p s).stalled
@[simp] theorem setMarks_phaseEvents (p : MarkSpec → Bool) (s : State) : (setMarks p s).controller.phaseEvents = s.controller.phaseEvents :=
  (Reported.setMarks p s).phaseEvents
@[simp] theorem setMarks_ruptured (p : MarkSpec → Bool) (s : State) : (setMarks p s).controller.ruptured = s.controller.ruptured :=
  (Reported.setMarks p s).ruptured
@[simp] theorem setMarks_ramp (p : MarkSpec → Bool) (s : State) : (setMarks p s).controller.ramp = s.controller.ramp :=
  (Reported.setMarks p s).ramp
@[simp] theorem setMarks_lastRamp (p : MarkSpec → Bool) (s : State) : (setMarks p s).controller.lastRamp = s.controller.lastRamp :=
  (Reported.setMarks p s).lastRamp
@[simp] theorem setMarks_unloadNoted (p : MarkSpec → Bool) (s : State) : (setMarks p s).controller.unloadNoted = s.controller.unloadNoted :=
  (Reported.setMarks p s).unloadNoted
@[simp] theorem setMarks_hold (p : MarkSpec → Bool) (s : State) : (setMarks p s).controller.hold = s.controller.hold :=
  (Reported.setMarks p s).hold
@[simp] theorem setMarks_halted (p : MarkSpec → Bool) (s : State) : (setMarks p s).faults.halted = s.faults.halted :=
  (Reported.setMarks p s).halted

/-! ## What `countUnassociated` leaves -/

@[simp] theorem countUnassociated_tracker (s : State) : (countUnassociated s).tracker = s.tracker := (Reported.countUnassociated s).tracker
@[simp] theorem countUnassociated_units (s : State) : (countUnassociated s).units = s.units := (Reported.countUnassociated s).units
@[simp] theorem countUnassociated_assembler (s : State) : (countUnassociated s).assembler = s.assembler := (Reported.countUnassociated s).assembler
@[simp] theorem countUnassociated_monitor (s : State) : (countUnassociated s).monitor = s.monitor := (Reported.countUnassociated s).monitor
@[simp] theorem countUnassociated_staged (s : State) : (countUnassociated s).staged = s.staged := (Reported.countUnassociated s).staged
@[simp] theorem countUnassociated_active (s : State) : (countUnassociated s).active = s.active := (Reported.countUnassociated s).active
@[simp] theorem countUnassociated_responder (s : State) : (countUnassociated s).responder = s.responder := (Reported.countUnassociated s).responder
@[simp] theorem countUnassociated_ready (s : State) : (countUnassociated s).ready = s.ready := (Reported.countUnassociated s).ready
@[simp] theorem countUnassociated_freeDraws (s : State) : (countUnassociated s).freeDraws = s.freeDraws := (Reported.countUnassociated s).freeDraws
@[simp] theorem countUnassociated_pending (s : State) : (countUnassociated s).pending = s.pending := (Reported.countUnassociated s).pending
@[simp] theorem countUnassociated_phase (s : State) : (countUnassociated s).controller.phase = s.controller.phase :=
  (Reported.countUnassociated s).phase
@[simp] theorem countUnassociated_mutedFrom (s : State) : (countUnassociated s).controller.mutedFrom = s.controller.mutedFrom :=
  (Reported.countUnassociated s).mutedFrom
@[simp] theorem countUnassociated_queue (s : State) : (countUnassociated s).controller.queue = s.controller.queue :=
  (Reported.countUnassociated s).queue
@[simp] theorem countUnassociated_stalled (s : State) : (countUnassociated s).controller.stalled = s.controller.stalled :=
  (Reported.countUnassociated s).stalled
@[simp] theorem countUnassociated_phaseEvents (s : State) : (countUnassociated s).controller.phaseEvents = s.controller.phaseEvents :=
  (Reported.countUnassociated s).phaseEvents
@[simp] theorem countUnassociated_ruptured (s : State) : (countUnassociated s).controller.ruptured = s.controller.ruptured :=
  (Reported.countUnassociated s).ruptured
@[simp] theorem countUnassociated_ramp (s : State) : (countUnassociated s).controller.ramp = s.controller.ramp :=
  (Reported.countUnassociated s).ramp
@[simp] theorem countUnassociated_lastRamp (s : State) : (countUnassociated s).controller.lastRamp = s.controller.lastRamp :=
  (Reported.countUnassociated s).lastRamp
@[simp] theorem countUnassociated_unloadNoted (s : State) : (countUnassociated s).controller.unloadNoted = s.controller.unloadNoted :=
  (Reported.countUnassociated s).unloadNoted
@[simp] theorem countUnassociated_hold (s : State) : (countUnassociated s).controller.hold = s.controller.hold :=
  (Reported.countUnassociated s).hold
@[simp] theorem countUnassociated_halted (s : State) : (countUnassociated s).faults.halted = s.faults.halted :=
  (Reported.countUnassociated s).halted

/-! ## What `offerPass` leaves -/

@[simp] theorem offerPass_tracker (p : PassFrame) (s : State) : (offerPass p s).tracker = s.tracker := (Reported.offerPass p s).tracker
@[simp] theorem offerPass_units (p : PassFrame) (s : State) : (offerPass p s).units = s.units := (Reported.offerPass p s).units
@[simp] theorem offerPass_assembler (p : PassFrame) (s : State) : (offerPass p s).assembler = s.assembler := (Reported.offerPass p s).assembler
@[simp] theorem offerPass_monitor (p : PassFrame) (s : State) : (offerPass p s).monitor = s.monitor := (Reported.offerPass p s).monitor
@[simp] theorem offerPass_staged (p : PassFrame) (s : State) : (offerPass p s).staged = s.staged := (Reported.offerPass p s).staged
@[simp] theorem offerPass_active (p : PassFrame) (s : State) : (offerPass p s).active = s.active := (Reported.offerPass p s).active
@[simp] theorem offerPass_responder (p : PassFrame) (s : State) : (offerPass p s).responder = s.responder := (Reported.offerPass p s).responder
@[simp] theorem offerPass_ready (p : PassFrame) (s : State) : (offerPass p s).ready = s.ready := (Reported.offerPass p s).ready
@[simp] theorem offerPass_freeDraws (p : PassFrame) (s : State) : (offerPass p s).freeDraws = s.freeDraws := (Reported.offerPass p s).freeDraws
@[simp] theorem offerPass_pending (p : PassFrame) (s : State) : (offerPass p s).pending = s.pending := (Reported.offerPass p s).pending
@[simp] theorem offerPass_phase (p : PassFrame) (s : State) : (offerPass p s).controller.phase = s.controller.phase :=
  (Reported.offerPass p s).phase
@[simp] theorem offerPass_mutedFrom (p : PassFrame) (s : State) : (offerPass p s).controller.mutedFrom = s.controller.mutedFrom :=
  (Reported.offerPass p s).mutedFrom
@[simp] theorem offerPass_queue (p : PassFrame) (s : State) : (offerPass p s).controller.queue = s.controller.queue :=
  (Reported.offerPass p s).queue
@[simp] theorem offerPass_stalled (p : PassFrame) (s : State) : (offerPass p s).controller.stalled = s.controller.stalled :=
  (Reported.offerPass p s).stalled
@[simp] theorem offerPass_phaseEvents (p : PassFrame) (s : State) : (offerPass p s).controller.phaseEvents = s.controller.phaseEvents :=
  (Reported.offerPass p s).phaseEvents
@[simp] theorem offerPass_ruptured (p : PassFrame) (s : State) : (offerPass p s).controller.ruptured = s.controller.ruptured :=
  (Reported.offerPass p s).ruptured
@[simp] theorem offerPass_ramp (p : PassFrame) (s : State) : (offerPass p s).controller.ramp = s.controller.ramp :=
  (Reported.offerPass p s).ramp
@[simp] theorem offerPass_lastRamp (p : PassFrame) (s : State) : (offerPass p s).controller.lastRamp = s.controller.lastRamp :=
  (Reported.offerPass p s).lastRamp
@[simp] theorem offerPass_unloadNoted (p : PassFrame) (s : State) : (offerPass p s).controller.unloadNoted = s.controller.unloadNoted :=
  (Reported.offerPass p s).unloadNoted
@[simp] theorem offerPass_hold (p : PassFrame) (s : State) : (offerPass p s).controller.hold = s.controller.hold :=
  (Reported.offerPass p s).hold
@[simp] theorem offerPass_halted (p : PassFrame) (s : State) : (offerPass p s).faults.halted = s.faults.halted :=
  (Reported.offerPass p s).halted

/-! ## What `answer` leaves -/

@[simp] theorem answer_tracker (a : Answer) (s : State) : (answer a s).tracker = s.tracker := (Reported.answer a s).tracker
@[simp] theorem answer_units (a : Answer) (s : State) : (answer a s).units = s.units := (Reported.answer a s).units
@[simp] theorem answer_assembler (a : Answer) (s : State) : (answer a s).assembler = s.assembler := (Reported.answer a s).assembler
@[simp] theorem answer_monitor (a : Answer) (s : State) : (answer a s).monitor = s.monitor := (Reported.answer a s).monitor
@[simp] theorem answer_staged (a : Answer) (s : State) : (answer a s).staged = s.staged := (Reported.answer a s).staged
@[simp] theorem answer_active (a : Answer) (s : State) : (answer a s).active = s.active := (Reported.answer a s).active
@[simp] theorem answer_responder (a : Answer) (s : State) : (answer a s).responder = s.responder := (Reported.answer a s).responder
@[simp] theorem answer_ready (a : Answer) (s : State) : (answer a s).ready = s.ready := (Reported.answer a s).ready
@[simp] theorem answer_freeDraws (a : Answer) (s : State) : (answer a s).freeDraws = s.freeDraws := (Reported.answer a s).freeDraws
@[simp] theorem answer_pending (a : Answer) (s : State) : (answer a s).pending = s.pending := (Reported.answer a s).pending
@[simp] theorem answer_phase (a : Answer) (s : State) : (answer a s).controller.phase = s.controller.phase :=
  (Reported.answer a s).phase
@[simp] theorem answer_mutedFrom (a : Answer) (s : State) : (answer a s).controller.mutedFrom = s.controller.mutedFrom :=
  (Reported.answer a s).mutedFrom
@[simp] theorem answer_queue (a : Answer) (s : State) : (answer a s).controller.queue = s.controller.queue :=
  (Reported.answer a s).queue
@[simp] theorem answer_stalled (a : Answer) (s : State) : (answer a s).controller.stalled = s.controller.stalled :=
  (Reported.answer a s).stalled
@[simp] theorem answer_phaseEvents (a : Answer) (s : State) : (answer a s).controller.phaseEvents = s.controller.phaseEvents :=
  (Reported.answer a s).phaseEvents
@[simp] theorem answer_ruptured (a : Answer) (s : State) : (answer a s).controller.ruptured = s.controller.ruptured :=
  (Reported.answer a s).ruptured
@[simp] theorem answer_ramp (a : Answer) (s : State) : (answer a s).controller.ramp = s.controller.ramp :=
  (Reported.answer a s).ramp
@[simp] theorem answer_lastRamp (a : Answer) (s : State) : (answer a s).controller.lastRamp = s.controller.lastRamp :=
  (Reported.answer a s).lastRamp
@[simp] theorem answer_unloadNoted (a : Answer) (s : State) : (answer a s).controller.unloadNoted = s.controller.unloadNoted :=
  (Reported.answer a s).unloadNoted
@[simp] theorem answer_hold (a : Answer) (s : State) : (answer a s).controller.hold = s.controller.hold :=
  (Reported.answer a s).hold
@[simp] theorem answer_halted (a : Answer) (s : State) : (answer a s).faults.halted = s.faults.halted :=
  (Reported.answer a s).halted

/-! ## What `answerEach` leaves -/

@[simp] theorem answerEach_tracker (as : List Answer) (s : State) : (answerEach as s).tracker = s.tracker := (Reported.answerEach as s).tracker
@[simp] theorem answerEach_units (as : List Answer) (s : State) : (answerEach as s).units = s.units := (Reported.answerEach as s).units
@[simp] theorem answerEach_assembler (as : List Answer) (s : State) : (answerEach as s).assembler = s.assembler := (Reported.answerEach as s).assembler
@[simp] theorem answerEach_monitor (as : List Answer) (s : State) : (answerEach as s).monitor = s.monitor := (Reported.answerEach as s).monitor
@[simp] theorem answerEach_staged (as : List Answer) (s : State) : (answerEach as s).staged = s.staged := (Reported.answerEach as s).staged
@[simp] theorem answerEach_active (as : List Answer) (s : State) : (answerEach as s).active = s.active := (Reported.answerEach as s).active
@[simp] theorem answerEach_responder (as : List Answer) (s : State) : (answerEach as s).responder = s.responder := (Reported.answerEach as s).responder
@[simp] theorem answerEach_ready (as : List Answer) (s : State) : (answerEach as s).ready = s.ready := (Reported.answerEach as s).ready
@[simp] theorem answerEach_freeDraws (as : List Answer) (s : State) : (answerEach as s).freeDraws = s.freeDraws := (Reported.answerEach as s).freeDraws
@[simp] theorem answerEach_pending (as : List Answer) (s : State) : (answerEach as s).pending = s.pending := (Reported.answerEach as s).pending
@[simp] theorem answerEach_phase (as : List Answer) (s : State) : (answerEach as s).controller.phase = s.controller.phase :=
  (Reported.answerEach as s).phase
@[simp] theorem answerEach_mutedFrom (as : List Answer) (s : State) : (answerEach as s).controller.mutedFrom = s.controller.mutedFrom :=
  (Reported.answerEach as s).mutedFrom
@[simp] theorem answerEach_queue (as : List Answer) (s : State) : (answerEach as s).controller.queue = s.controller.queue :=
  (Reported.answerEach as s).queue
@[simp] theorem answerEach_stalled (as : List Answer) (s : State) : (answerEach as s).controller.stalled = s.controller.stalled :=
  (Reported.answerEach as s).stalled
@[simp] theorem answerEach_phaseEvents (as : List Answer) (s : State) : (answerEach as s).controller.phaseEvents = s.controller.phaseEvents :=
  (Reported.answerEach as s).phaseEvents
@[simp] theorem answerEach_ruptured (as : List Answer) (s : State) : (answerEach as s).controller.ruptured = s.controller.ruptured :=
  (Reported.answerEach as s).ruptured
@[simp] theorem answerEach_ramp (as : List Answer) (s : State) : (answerEach as s).controller.ramp = s.controller.ramp :=
  (Reported.answerEach as s).ramp
@[simp] theorem answerEach_lastRamp (as : List Answer) (s : State) : (answerEach as s).controller.lastRamp = s.controller.lastRamp :=
  (Reported.answerEach as s).lastRamp
@[simp] theorem answerEach_unloadNoted (as : List Answer) (s : State) : (answerEach as s).controller.unloadNoted = s.controller.unloadNoted :=
  (Reported.answerEach as s).unloadNoted
@[simp] theorem answerEach_hold (as : List Answer) (s : State) : (answerEach as s).controller.hold = s.controller.hold :=
  (Reported.answerEach as s).hold
@[simp] theorem answerEach_halted (as : List Answer) (s : State) : (answerEach as s).faults.halted = s.faults.halted :=
  (Reported.answerEach as s).halted

/-! ## What `settleTaken` leaves -/

@[simp] theorem settleTaken_tracker (s : State) : (settleTaken s).tracker = s.tracker := (Reported.settleTaken s).tracker
@[simp] theorem settleTaken_units (s : State) : (settleTaken s).units = s.units := (Reported.settleTaken s).units
@[simp] theorem settleTaken_assembler (s : State) : (settleTaken s).assembler = s.assembler := (Reported.settleTaken s).assembler
@[simp] theorem settleTaken_monitor (s : State) : (settleTaken s).monitor = s.monitor := (Reported.settleTaken s).monitor
@[simp] theorem settleTaken_staged (s : State) : (settleTaken s).staged = s.staged := (Reported.settleTaken s).staged
@[simp] theorem settleTaken_active (s : State) : (settleTaken s).active = s.active := (Reported.settleTaken s).active
@[simp] theorem settleTaken_responder (s : State) : (settleTaken s).responder = s.responder := (Reported.settleTaken s).responder
@[simp] theorem settleTaken_ready (s : State) : (settleTaken s).ready = s.ready := (Reported.settleTaken s).ready
@[simp] theorem settleTaken_freeDraws (s : State) : (settleTaken s).freeDraws = s.freeDraws := (Reported.settleTaken s).freeDraws
@[simp] theorem settleTaken_pending (s : State) : (settleTaken s).pending = s.pending := (Reported.settleTaken s).pending
@[simp] theorem settleTaken_phase (s : State) : (settleTaken s).controller.phase = s.controller.phase :=
  (Reported.settleTaken s).phase
@[simp] theorem settleTaken_mutedFrom (s : State) : (settleTaken s).controller.mutedFrom = s.controller.mutedFrom :=
  (Reported.settleTaken s).mutedFrom
@[simp] theorem settleTaken_queue (s : State) : (settleTaken s).controller.queue = s.controller.queue :=
  (Reported.settleTaken s).queue
@[simp] theorem settleTaken_stalled (s : State) : (settleTaken s).controller.stalled = s.controller.stalled :=
  (Reported.settleTaken s).stalled
@[simp] theorem settleTaken_phaseEvents (s : State) : (settleTaken s).controller.phaseEvents = s.controller.phaseEvents :=
  (Reported.settleTaken s).phaseEvents
@[simp] theorem settleTaken_ruptured (s : State) : (settleTaken s).controller.ruptured = s.controller.ruptured :=
  (Reported.settleTaken s).ruptured
@[simp] theorem settleTaken_ramp (s : State) : (settleTaken s).controller.ramp = s.controller.ramp :=
  (Reported.settleTaken s).ramp
@[simp] theorem settleTaken_lastRamp (s : State) : (settleTaken s).controller.lastRamp = s.controller.lastRamp :=
  (Reported.settleTaken s).lastRamp
@[simp] theorem settleTaken_unloadNoted (s : State) : (settleTaken s).controller.unloadNoted = s.controller.unloadNoted :=
  (Reported.settleTaken s).unloadNoted
@[simp] theorem settleTaken_hold (s : State) : (settleTaken s).controller.hold = s.controller.hold :=
  (Reported.settleTaken s).hold
@[simp] theorem settleTaken_halted (s : State) : (settleTaken s).faults.halted = s.faults.halted :=
  (Reported.settleTaken s).halted

end Sys2Proof.Machine
end

