-- ==== Sys2Proof/Laws/Outlet.lean ====
section
/-! SUPPORT. What the shared operations do to the outlet and to the condition flags: the arbiter's choice, the two trails
(answers and records in their order), the places that an offer leaves alone, and the sound relations that offers and raises
keep. -/
namespace Sys2Proof.Machine

/-! ## Sets of conditions -/

@[simp] theorem CondSet.has_insert (s : CondSet) (c d : Condition) :
    (s.insert c).has d = (decide (c = d) || s.has d) := by
  cases c <;> cases d <;> simp [CondSet.insert, CondSet.has]

@[simp] theorem CondSet.has_zipWith (f : Bool → Bool → Bool) (s t : CondSet) (c : Condition) :
    (s.zipWith f t).has c = f (s.has c) (t.has c) := by
  cases c <;> rfl

@[simp] theorem CondSet.has_union (s t : CondSet) (c : Condition) : (s.union t).has c = (s.has c || t.has c) := by
  simp [CondSet.union]

@[simp] theorem CondSet.has_inter (s t : CondSet) (c : Condition) : (s.inter t).has c = (s.has c && t.has c) := by
  simp [CondSet.inter]

@[simp] theorem CondSet.has_diff (s t : CondSet) (c : Condition) : (s.diff t).has c = (s.has c && !t.has c) := by
  simp [CondSet.diff]

/-! ## The arbiter -/

/-- The choice is by strict priority, oldest first (R141). -/
theorem arbiterChoice_chooseNext (o : Outlet) : ArbiterChoice o (chooseNext o) := by
  refine ⟨?_, ?_, ?_, ?_, ?_⟩ <;> intros <;> simp_all [chooseNext]

/-- The four places and the frame in transmission before a choice, and after it: the whole of what a choice can do. -/
theorem chooseNext_cases (o : Outlet) :
    (∃ r, o.faultSlot = some r ∧ chooseNext o = { o with faultSlot := none, sending := some (.fault r) }) ∨
    (∃ a as, o.faultSlot = none ∧ o.answers = a :: as ∧
      chooseNext o = { o with answers := as, sending := some (.answer a) }) ∨
    (∃ r rs, o.faultSlot = none ∧ o.answers = [] ∧ o.records = r :: rs ∧
      chooseNext o = { o with records := rs, sending := some (.record r) }) ∨
    (∃ p ps, o.faultSlot = none ∧ o.answers = [] ∧ o.records = [] ∧ o.passBuffer = p :: ps ∧
      chooseNext o = { o with passBuffer := ps, sending := some (.passed p) }) ∨
    (o.faultSlot = none ∧ o.answers = [] ∧ o.records = [] ∧ o.passBuffer = [] ∧ chooseNext o = o) := by
  cases h1 : o.faultSlot <;> cases h2 : o.answers <;> cases h3 : o.records <;> cases h4 : o.passBuffer <;>
    simp [chooseNext, h1, h2, h3, h4]

/-- The arbiter acts exactly when the link is free. -/
theorem arbitrate_outlet (s : State) :
    (arbitrate s).outlet = if linkFree s then chooseNext s.outlet else s.outlet := by
  unfold arbitrate linkFree
  split <;> rfl

theorem arbitrate_of_not_linkFree {s : State} (h : linkFree s = false) : arbitrate s = s := by
  unfold linkFree at h
  simp [arbitrate, h]

@[simp] theorem arbitrate_faults (s : State) : (arbitrate s).faults = s.faults := by
  unfold arbitrate; split <;> rfl

@[simp] theorem arbitrate_controller (s : State) : (arbitrate s).controller = s.controller := by
  unfold arbitrate; split <;> rfl

theorem sending_none_of_linkFree {s : State} (h : linkFree s = true) : s.outlet.sending = none := by
  simp [linkFree] at h; exact h.2

@[simp] theorem chooseNext_dense (o : Outlet) : (chooseNext o).dense = o.dense := by
  rcases chooseNext_cases o with ⟨_, _, h⟩ | ⟨_, _, _, _, h⟩ | ⟨_, _, _, _, _, h⟩ | ⟨_, _, _, _, _, _, h⟩ | ⟨_, _, _, _, h⟩ <;>
    simp [h]

@[simp] theorem chooseNext_cut (o : Outlet) : (chooseNext o).cut = o.cut := by
  rcases chooseNext_cases o with ⟨_, _, h⟩ | ⟨_, _, _, _, h⟩ | ⟨_, _, _, _, _, h⟩ | ⟨_, _, _, _, _, _, h⟩ | ⟨_, _, _, _, h⟩ <;>
    simp [h]

@[simp] theorem chooseNext_reservations (o : Outlet) : (chooseNext o).reservations = o.reservations := by
  rcases chooseNext_cases o with ⟨_, _, h⟩ | ⟨_, _, _, _, h⟩ | ⟨_, _, _, _, _, h⟩ | ⟨_, _, _, _, _, _, h⟩ | ⟨_, _, _, _, h⟩ <;>
    simp [h]

@[simp] theorem arbitrate_dense (s : State) : (arbitrate s).outlet.dense = s.outlet.dense := by
  rw [arbitrate_outlet]; split <;> simp

@[simp] theorem arbitrate_cut (s : State) : (arbitrate s).outlet.cut = s.outlet.cut := by
  rw [arbitrate_outlet]; split <;> simp

@[simp] theorem arbitrate_reservations (s : State) : (arbitrate s).outlet.reservations = s.outlet.reservations := by
  rw [arbitrate_outlet]; split <;> simp

/-- A choice takes nothing from the answers built and not yet sent (R144). -/
theorem answerTrail_chooseNext {o : Outlet} (h : o.sending = none) : answerTrail (chooseNext o) = answerTrail o := by
  rcases chooseNext_cases o with ⟨_, _, e⟩ | ⟨_, _, _, ha, e⟩ | ⟨_, _, _, ha, _, e⟩ | ⟨_, _, _, ha, _, _, e⟩ | ⟨_, _, _, _, e⟩ <;>
    simp_all [answerTrail]

/-- Nor from the records admitted and not yet sent (R146). -/
theorem recordTrail_chooseNext {o : Outlet} (h : o.sending = none) : recordTrail (chooseNext o) = recordTrail o := by
  rcases chooseNext_cases o with ⟨_, _, e⟩ | ⟨_, _, _, ha, e⟩ | ⟨_, _, _, ha, _, e⟩ | ⟨_, _, _, ha, _, _, e⟩ | ⟨_, _, _, _, e⟩ <;>
    simp_all [recordTrail]

@[simp] theorem answerTrail_arbitrate (s : State) : answerTrail (arbitrate s).outlet = answerTrail s.outlet := by
  rw [arbitrate_outlet]
  split
  · next h => exact answerTrail_chooseNext (sending_none_of_linkFree h)
  · rfl

@[simp] theorem recordTrail_arbitrate (s : State) : recordTrail (arbitrate s).outlet = recordTrail s.outlet := by
  rw [arbitrate_outlet]
  split
  · next h => exact recordTrail_chooseNext (sending_none_of_linkFree h)
  · rfl

/-! ## What a report does to the outlet and the flags -/

/-- `t` comes of `s` by offers and raises: the fault slot, the answers, the reservations and the frame in transmission are
as they were; records may have joined at the tail; conditions may have become pending; dense mode may have been entered, and
its cut; the buffer may have been emptied by the cut. -/
structure Offered (s t : State) : Prop where
  faultSlot : t.outlet.faultSlot = s.outlet.faultSlot
  answers : t.outlet.answers = s.outlet.answers
  reservations : t.outlet.reservations = s.outlet.reservations
  sending : t.outlet.sending = s.outlet.sending
  records : ∃ more, t.outlet.records = s.outlet.records ++ more
  pendingSet : ∀ c, s.faults.pendingSet.has c = true → t.faults.pendingSet.has c = true
  conds : CondsSound s → CondsSound t
  cut : CutSound s → CutSound t
  dense : s.outlet.dense = true → t.outlet.dense = true ∧ t.outlet.cut = s.outlet.cut ∧
    t.outlet.passBuffer = s.outlet.passBuffer
  passBuffer : t.outlet.passBuffer = s.outlet.passBuffer ∨ t.outlet.passBuffer = []
  places : PlacesSound s → PlacesSound t

theorem Offered.refl (s : State) : Offered s s :=
  ⟨rfl, rfl, rfl, rfl, ⟨[], by simp⟩, fun _ h => h, id, id, fun h => ⟨h, rfl, rfl⟩, .inl rfl, id⟩

theorem Offered.trans {s t u : State} (h : Offered s t) (g : Offered t u) : Offered s u := by
  obtain ⟨m1, h1⟩ := h.records
  obtain ⟨m2, h2⟩ := g.records
  refine ⟨g.faultSlot.trans h.faultSlot, g.answers.trans h.answers, g.reservations.trans h.reservations,
    g.sending.trans h.sending, ⟨m1 ++ m2, by rw [h2, h1, List.append_assoc]⟩,
    fun c hc => g.pendingSet c (h.pendingSet c hc), g.conds ∘ h.conds, g.cut ∘ h.cut, fun hd => ?_, ?_, g.places ∘ h.places⟩
  · obtain ⟨d1, c1, p1⟩ := h.dense hd
    obtain ⟨d2, c2, p2⟩ := g.dense d1
    exact ⟨d2, c2.trans c1, p2.trans p1⟩
  · rcases g.passBuffer with e | e
    · rw [e]; exact h.passBuffer
    · exact .inr e

theorem Offered.onCounters (f : Counters → Counters) (s : State) : Offered s (onCounters f s) :=
  ⟨rfl, rfl, rfl, rfl, ⟨[], by simp [Machine.onCounters]⟩, fun _ h => h, id, id, fun h => ⟨h, rfl, rfl⟩, .inl rfl, id⟩

theorem Offered.setMarks (p : MarkSpec → Bool) (s : State) : Offered s (setMarks p s) :=
  ⟨rfl, rfl, rfl, rfl, ⟨[], by simp [Machine.setMarks]⟩, fun _ h => h, id, id, fun h => ⟨h, rfl, rfl⟩, .inl rfl, id⟩

/-- The seen flag may be set of a condition that is pending. -/
theorem Offered.seen {s : State} {c : Condition} (hp : s.faults.pendingSet.has c = true) :
    Offered s (s.onFaults fun x => { x with seenSet := x.seenSet.insert c }) := by
  refine ⟨rfl, rfl, rfl, rfl, ⟨[], by simp⟩, fun _ h => h, fun h d hd => ?_, id, fun h => ⟨h, rfl, rfl⟩, .inl rfl, id⟩
  simp only [State.onFaults_faults, CondSet.has_insert, Bool.or_eq_true, decide_eq_true_eq] at hd ⊢
  rcases hd with e | hd
  · exact e ▸ hp
  · exact h d hd

theorem Offered.pend (s : State) (c : Condition) :
    Offered s (s.onFaults fun x => { x with pendingSet := x.pendingSet.insert c }) := by
  refine ⟨rfl, rfl, rfl, rfl, ⟨[], by simp⟩, fun d h => ?_, fun h d hd => ?_, id, fun h => ⟨h, rfl, rfl⟩, .inl rfl, id⟩
  · simp [h]
  · simp only [State.onFaults_faults, CondSet.has_insert, Bool.or_eq_true, decide_eq_true_eq] at hd ⊢
    exact .inr (h d hd)

theorem Offered.raiseWith {offer : Record → State → State} (h : ∀ r s, Offered s (offer r s)) (c : Condition)
    (s : State) : Offered s (raiseWith offer c s) := by
  have p := Offered.pend s c
  have hp : (s.onFaults fun x => { x with pendingSet := x.pendingSet.insert c }).faults.pendingSet.has c = true := by simp
  unfold Machine.raiseWith
  split
  · exact .refl s
  · dsimp only
    split
    · split
      · exact (p.trans (h _ _)).trans (.seen ((h _ _).pendingSet c hp))
      · exact p.trans (h _ _)
    · exact p

theorem raiseWith_pending {offer : Record → State → State} {c : Condition} {s : State}
    (h : s.faults.pendingSet.has c = true) : Machine.raiseWith offer c s = s := by
  simp [Machine.raiseWith, h]

/-- A raised condition is pending afterwards (R167). -/
theorem raiseWith_pends {offer : Record → State → State} (h : ∀ r s, Offered s (offer r s)) (c : Condition) (s : State) :
    (raiseWith offer c s).faults.pendingSet.has c = true := by
  have hp : (s.onFaults fun x => { x with pendingSet := x.pendingSet.insert c }).faults.pendingSet.has c = true := by simp
  unfold Machine.raiseWith
  split
  · assumption
  · dsimp only
    split
    · split
      · exact (h _ _).pendingSet c hp
      · exact (h _ _).pendingSet c hp
    · exact hp

/-- Entry to dense mode from a state that is not in it (R148). -/
theorem Offered.enterDense {offer : Record → State → State} (h : ∀ r s, Offered s (offer r s)) {s : State}
    (hd : s.outlet.dense = false) : Offered s (enterDense offer s) := by
  unfold Machine.enterDense
  refine Offered.trans ?_ (.raiseWith h _ _)
  refine Offered.trans ?_ (.setMarks _ _)
  refine ⟨?_, ?_, ?_, ?_, ⟨[], ?_⟩, fun _ g => g, id, ?_, ?_, ?_, ?_⟩ <;>
    cases ht : s.active.test.cutTiming <;> simp_all [CutSound, PlacesSound]

/-- A record is admitted below its limit only (R145). -/
theorem length_lt_of_admitted {r : Record} {s : State} (h : disposition r s = .admitted) :
    s.outlet.records.length < recordLimit r := by
  unfold disposition at h
  by_cases h1 : s.faults.halted = true
  · simp [h1] at h
  · rw [if_neg h1] at h
    cases r <;> simp only at h <;> by_contra hc <;> simp_all <;> split at h <;> cases h

/-- An admission keeps the places (R145). -/
theorem Offered.pushRecord {r : Record} {s : State} (h : disposition r s = .admitted) : Offered s (pushRecord r s) := by
  refine ⟨rfl, rfl, rfl, rfl, ⟨[r], rfl⟩, fun _ g => g, id, id, fun g => ⟨g, rfl, rfl⟩, .inl rfl, ?_⟩
  rintro ⟨h1, h2, h3, h4⟩
  have hl := List.length_filter_le isDataRecord s.outlet.records
  have hr := length_lt_of_admitted h
  refine ⟨?_, ?_, h3, h4⟩ <;> cases r <;>
    simp [Machine.pushRecord, List.filter_cons, isDataRecord, recordLimit, Config.dataCapacity,
      Config.recordCapacity] at hr ⊢ <;> omega

theorem Offered.offerDepth (d : Nat) : ∀ (r : Record) (s : State), Offered s (offerDepth d r s) := by
  induction d with
  | zero => exact fun _ s => .refl s
  | succ d ih =>
    intro r s
    unfold Machine.offerDepth
    split
    · exact .refl s
    · exact .onCounters _ s
    · exact (Offered.onCounters _ s).trans (.raiseWith ih _ _)
    · next h =>
      dsimp only
      split
      · next he =>
        refine (Offered.pushRecord h).trans (.enterDense ih ?_)
        simp only [entersDense, Bool.and_eq_true, Bool.not_eq_true'] at he
        exact he.1
      · exact .pushRecord h

/-- What an offer does before the arbiter's turn. -/
theorem Offered.offer (r : Record) (s : State) : ∃ u, Offered s u ∧ Reported s u ∧ Machine.offerRecord r s = Machine.arbitrate u :=
  ⟨_, .offerDepth 3 r s, .offerDepth 3 r s, rfl⟩

/-- What a raise does before the arbiter's turn. -/
theorem Offered.raise (c : Condition) (s : State) : ∃ u, Offered s u ∧ Reported s u ∧ Machine.raise c s = Machine.arbitrate u :=
  ⟨_, .raiseWith (.offerDepth 3) c s, .raiseWith (.offerDepth 3) c s, rfl⟩

theorem Offered.answerTrail {s t : State} (h : Offered s t) : answerTrail t.outlet = answerTrail s.outlet := by
  simp [Machine.answerTrail, h.sending, h.answers]

theorem Offered.recordTrail {s t : State} (h : Offered s t) : recordTrail s.outlet <+: recordTrail t.outlet := by
  obtain ⟨more, hm⟩ := h.records
  refine ⟨more, ?_⟩
  simp only [Machine.recordTrail, h.sending, hm]
  split <;> simp

/-! ## The pass-through buffer across an offer -/

/-- The arbiter leaves the pass-through buffer alone while a record waits (R141). -/
theorem arbitrate_passBuffer {s : State} (h : s.outlet.records ≠ []) :
    (arbitrate s).outlet.passBuffer = s.outlet.passBuffer := by
  unfold arbitrate
  split
  · simp only [State.onOutlet_outlet]
    unfold chooseNext
    split <;> first | rfl | simp_all
  · rfl

theorem raiseWith_passLost {offer : Record → State → State}
    (h : ∀ r s, (offer r s).controller.counters.passLost = s.controller.counters.passLost) (c : Condition) (s : State) :
    (raiseWith offer c s).controller.counters.passLost = s.controller.counters.passLost := by
  unfold raiseWith
  split
  · rfl
  · dsimp only
    split
    · split <;> exact h _ _
    · rfl

/-- No offer to the record queue counts a pass-through frame as lost (R147, R148). -/
theorem offerDepth_passLost (d : Nat) : ∀ (r : Record) (s : State),
    (offerDepth d r s).controller.counters.passLost = s.controller.counters.passLost := by
  induction d with
  | zero => exact fun _ _ => rfl
  | succ d ih =>
    intro r s
    unfold offerDepth
    split
    · rfl
    · rfl
    · exact (raiseWith_passLost ih _ _).trans (by cases r <;> rfl)
    · dsimp only
      split
      · exact raiseWith_passLost ih _ _
      · rfl

/-! ## Trails across the shared operations -/

@[simp] theorem answerTrail_offerRecord (r : Record) (s : State) :
    answerTrail (offerRecord r s).outlet = answerTrail s.outlet := by
  obtain ⟨u, h, _, e⟩ := Offered.offer r s
  rw [e, answerTrail_arbitrate, h.answerTrail]

@[simp] theorem answerTrail_raise (c : Condition) (s : State) :
    answerTrail (raise c s).outlet = answerTrail s.outlet := by
  obtain ⟨u, h, _, e⟩ := Offered.raise c s
  rw [e, answerTrail_arbitrate, h.answerTrail]

/-- A built answer joins behind every answer built before it (R144). -/
@[simp] theorem answerTrail_answer (a : Answer) (s : State) :
    answerTrail (answer a s).outlet = answerTrail s.outlet ++ [a] := by
  unfold answer
  rw [answerTrail_arbitrate]
  simp only [State.onOutlet_outlet, answerTrail]
  split <;> simp

@[simp] theorem answerTrail_answerEach (as : List Answer) : ∀ s : State,
    answerTrail (answerEach as s).outlet = answerTrail s.outlet ++ as := by
  induction as with
  | nil => simp [answerEach]
  | cons a as ih => intro s; simp [answerEach] at ih ⊢; rw [ih]; simp

@[simp] theorem offerRecord_reservations (r : Record) (s : State) :
    (offerRecord r s).outlet.reservations = s.outlet.reservations := by
  obtain ⟨u, h, _, e⟩ := Offered.offer r s
  rw [e, arbitrate_reservations, h.reservations]

@[simp] theorem raise_reservations (c : Condition) (s : State) :
    (raise c s).outlet.reservations = s.outlet.reservations := by
  obtain ⟨u, h, _, e⟩ := Offered.raise c s
  rw [e, arbitrate_reservations, h.reservations]

@[simp] theorem answer_reservations (a : Answer) (s : State) :
    (answer a s).outlet.reservations = s.outlet.reservations - 1 := by
  simp [answer]

/-- Each answer fills one reservation (R144). -/
@[simp] theorem answerEach_reservations (as : List Answer) : ∀ s : State,
    (answerEach as s).outlet.reservations = s.outlet.reservations - as.length := by
  induction as with
  | nil => simp [answerEach]
  | cons a as ih => intro s; simp [answerEach] at ih ⊢; rw [ih]; simp; omega

@[simp] theorem answer_faults (a : Answer) (s : State) : (answer a s).faults = s.faults := by simp [answer]

@[simp] theorem answer_controller (a : Answer) (s : State) : (answer a s).controller = s.controller := by simp [answer]

@[simp] theorem answerEach_faults (as : List Answer) : ∀ s : State, (answerEach as s).faults = s.faults := by
  induction as with
  | nil => simp [answerEach]
  | cons a as ih => intro s; simp [answerEach] at ih ⊢; rw [ih]; simp

@[simp] theorem answerEach_controller (as : List Answer) : ∀ s : State, (answerEach as s).controller = s.controller := by
  induction as with
  | nil => simp [answerEach]
  | cons a as ih => intro s; simp [answerEach] at ih ⊢; rw [ih]; simp

/-! ## The arbiter and the other blocks do not meet -/

theorem arbitrate_comm {g : State → State} {s : State} (hr : (g s).ready = s.ready) (ho : (g s).outlet = s.outlet)
    (hg : g (s.onOutlet chooseNext) = (g s).onOutlet chooseNext) : arbitrate (g s) = g (arbitrate s) := by
  unfold arbitrate
  rw [hr, ho]
  split
  · exact hg.symm
  · rfl

theorem arbitrate_onTracker (f : Tracker → Tracker) (s : State) :
    arbitrate (s.onTracker f) = (arbitrate s).onTracker f :=
  arbitrate_comm (g := fun s => s.onTracker f) rfl rfl rfl

theorem arbitrate_onUnits (f : Vector ChannelUnit 32 → Vector ChannelUnit 32) (s : State) :
    arbitrate (s.onUnits f) = (arbitrate s).onUnits f :=
  arbitrate_comm (g := fun s => s.onUnits f) rfl rfl rfl

theorem arbitrate_onAssembler (f : Assembler → Assembler) (s : State) :
    arbitrate (s.onAssembler f) = (arbitrate s).onAssembler f :=
  arbitrate_comm (g := fun s => s.onAssembler f) rfl rfl rfl

theorem arbitrate_onController (f : Controller → Controller) (s : State) :
    arbitrate (s.onController f) = (arbitrate s).onController f :=
  arbitrate_comm (g := fun s => s.onController f) rfl rfl rfl

theorem arbitrate_onMonitor (f : Monitor → Monitor) (s : State) :
    arbitrate (s.onMonitor f) = (arbitrate s).onMonitor f :=
  arbitrate_comm (g := fun s => s.onMonitor f) rfl rfl rfl

theorem arbitrate_onStaged (f : Tables → Tables) (s : State) :
    arbitrate (s.onStaged f) = (arbitrate s).onStaged f :=
  arbitrate_comm (g := fun s => s.onStaged f) rfl rfl rfl

theorem arbitrate_onActive (f : Tables → Tables) (s : State) :
    arbitrate (s.onActive f) = (arbitrate s).onActive f :=
  arbitrate_comm (g := fun s => s.onActive f) rfl rfl rfl

theorem arbitrate_onResponder (f : Responder → Responder) (s : State) :
    arbitrate (s.onResponder f) = (arbitrate s).onResponder f :=
  arbitrate_comm (g := fun s => s.onResponder f) rfl rfl rfl

theorem arbitrate_onFaults (f : FaultUnit → FaultUnit) (s : State) :
    arbitrate (s.onFaults f) = (arbitrate s).onFaults f :=
  arbitrate_comm (g := fun s => s.onFaults f) rfl rfl rfl

/-! ## Answers built together (R141, R144) -/

/-- The answer queue with `as` joined behind the answers already built, each in the place of its reservation (R144). -/
def fillAnswers (as : List Answer) (s : State) : State :=
  s.onOutlet fun o => { o with answers := o.answers ++ as, reservations := o.reservations - as.length }

theorem answer_eq_fill (a : Answer) (s : State) : answer a s = arbitrate (fillAnswers [a] s) := rfl

/-- The arbiter has its turn after the first of several answers, and takes what it would take after the last. -/
theorem answer_arbitrate_fill (as : List Answer) (b : Answer) (s : State) (h : as ≠ []) :
    answer b (arbitrate (fillAnswers as s)) = arbitrate (fillAnswers (as ++ [b]) s) := by
  obtain ⟨a, as, rfl⟩ := List.exists_cons_of_ne_nil h
  rcases s with ⟨tr, us, asm, ct, mo, st, ac, ⟨slot, answers, res, recs, buf, dense, cutState, sending⟩, rs, fa, rd, fd, pe⟩
  rcases rd with _ | _ <;> rcases sending with _ | x <;> rcases slot with _ | r <;> rcases answers with _ | ⟨q, qs⟩ <;>
    simp [answer, arbitrate, fillAnswers, State.onOutlet, chooseNext, Nat.sub_sub, Nat.add_comm, Nat.add_left_comm]

theorem answerEach_arbitrate_fill (bs : List Answer) : ∀ (as : List Answer) (s : State), as ≠ [] →
    answerEach bs (arbitrate (fillAnswers as s)) = arbitrate (fillAnswers (as ++ bs) s) := by
  induction bs with
  | nil => intro as s _; simp [answerEach]
  | cons b bs ih =>
    intro as s h
    show answerEach bs (answer b _) = _
    rw [answer_arbitrate_fill as b s h, ih _ s (by simp), List.append_assoc]
    rfl

/-- Answers built together join in order and the arbiter then has its turn (R141, R144). -/
theorem answer_answerEach (as : List Answer) (b : Answer) (s : State) :
    answer b (answerEach as s) = arbitrate (fillAnswers (as ++ [b]) s) := by
  cases as with
  | nil => rfl
  | cons a as =>
    show answer b (answerEach as (answer a s)) = _
    rw [answer_eq_fill a s, answerEach_arbitrate_fill as [a] s (by simp), answer_arbitrate_fill _ _ _ (by simp)]
    rfl

end Sys2Proof.Machine
end

