-- ==== Sys2Proof/Laws/Faults.lean ====
section
/-! SUPPORT. What a fault report can do, said once (R164): nothing in HALTED, a first code, a second code, or entry to
HALTED, whose state is given field by field (R165). -/
namespace Sys2Proof.Machine

theorem reportFault_halted {code : FaultCode} {sel : Option Nat} {s : State} (h : s.faults.halted = true) :
    reportFault code sel s = s := by
  simp [reportFault, h]

theorem reportFault_first {code : FaultCode} {sel : Option Nat} {s : State} (h : s.faults.halted = false)
    (hs : s.outlet.faultSlot = none) :
    reportFault code sel s = arbitrate (s.onOutlet fun o => { o with faultSlot := some (firstFault code sel s) }) := by
  simp [reportFault, h, hs]

theorem reportFault_second {code : FaultCode} {sel : Option Nat} {s : State} {r : FaultRecord}
    (h : s.faults.halted = false) (hs : s.outlet.faultSlot = some r) (hr : r.second = none) :
    reportFault code sel s =
      s.onOutlet fun o => { o with faultSlot := some { r with second := some code, secondSelector := sel } } := by
  simp [reportFault, h, hs, hr]

theorem reportFault_third {code : FaultCode} {sel : Option Nat} {s : State} {r : FaultRecord}
    (h : s.faults.halted = false) (hs : s.outlet.faultSlot = some r) (hr : r.second ≠ none) :
    reportFault code sel s =
      enterHalted (s.onOutlet fun o => { o with faultSlot := some { r with halted := true, cls := .abort } }) := by
  obtain ⟨x, hx⟩ := Option.ne_none_iff_exists'.mp hr
  simp [reportFault, h, hs, hx]

/-! ## Entry to HALTED (R165) -/

variable (s : State)

@[simp] theorem enterHalted_faults : (enterHalted s).faults = { s.faults with halted := true } := by
  simp [enterHalted, cancelOrders]

@[simp] theorem enterHalted_tracker : (enterHalted s).tracker = .initial := by
  simp [enterHalted, cancelOrders]

@[simp] theorem enterHalted_units : (enterHalted s).units = mapVec darkUnit s.units := by
  simp [enterHalted, cancelOrders]

@[simp] theorem enterHalted_assembler :
    (enterHalted s).assembler =
      { s.assembler with arrivals := [], slots := Vector.replicate 8 none, inFlight := [] } := by
  simp [enterHalted, cancelOrders]

@[simp] theorem enterHalted_controller :
    (enterHalted s).controller =
      { s.controller with phase := .idle, mutedFrom := none, queue := [], stalled := false, phaseEvents := 0,
                          ramp := none, hold := none } := by
  simp [enterHalted, cancelOrders]

@[simp] theorem enterHalted_monitor : (enterHalted s).monitor = s.monitor := by
  simp [enterHalted, cancelOrders]

@[simp] theorem enterHalted_staged : (enterHalted s).staged = s.staged := by
  simp [enterHalted, cancelOrders]

@[simp] theorem enterHalted_active : (enterHalted s).active = s.active := by
  simp [enterHalted, cancelOrders]

@[simp] theorem enterHalted_responder : (enterHalted s).responder = { s.responder with waiting := [] } := by
  simp [enterHalted, cancelOrders]

@[simp] theorem enterHalted_ready : (enterHalted s).ready = s.ready := by
  simp [enterHalted, cancelOrders]

@[simp] theorem enterHalted_freeDraws : (enterHalted s).freeDraws = s.freeDraws := by
  simp [enterHalted, cancelOrders]

@[simp] theorem enterHalted_pending : (enterHalted s).pending = s.pending := by
  simp [enterHalted, cancelOrders]

/-- The queued orders and then the waiting frames are answered CANCELLED (R161). -/
theorem answerTrail_enterHalted :
    answerTrail (enterHalted s).outlet = answerTrail s.outlet ++
      s.controller.queue.map (fun q => orderAnswer q.tag .cancelled) ++ s.responder.waiting.map cancelledAnswer := by
  simp [enterHalted, cancelOrders]
  rfl

/-- A report that does not halt the part leaves everything but the fault slot and the frame in transmission. -/
theorem reportFault_reported {code : FaultCode} {sel : Option Nat} {s : State}
    (h : (reportFault code sel s).faults.halted = false) : Reported s (reportFault code sel s) := by
  cases hh : s.faults.halted with
  | true => rw [reportFault_halted hh]; exact .refl s
  | false =>
    cases hs : s.outlet.faultSlot with
    | none => rw [reportFault_first hh hs]; exact (Reported.onOutlet s _).trans (.arbitrate _)
    | some r =>
      by_cases hr : r.second = none
      · rw [reportFault_second hh hs hr]; exact .onOutlet s _
      · rw [reportFault_third hh hs hr] at h; simp at h

end Sys2Proof.Machine
end

