-- ==== Sys2Proof/Laws/Hits.lean ====
section
/-! SUPPORT. What ends, arrivals and directives of the channel units can do, said once each: an end sequence, an arrival and
a notice leave everything but the assembler and what a report reaches (`Reported`); a directive to all units reaches every
unit once. -/
namespace Sys2Proof.Machine

/-! ## The end sequence (R37) -/

/-- An end sequence changes the assembler by its notice, and otherwise what a report reaches. -/
theorem endSequence_reach (c : Chan) (h : Hit) (k : HitEnd) (ph : Phase) (held : Bool) (s : State) :
    ∃ a, Reported (s.onAssembler fun _ => a) (endSequence c h k ph held s) := by
  unfold endSequence
  dsimp only
  split
  · exact ⟨_, (Reported.onCounters _ (holdNotice _ s)).trans (.offerRecord _ _)⟩
  · exact ⟨_, (Reported.onCounters _ (endNotice _ s)).trans (.offerRecord _ _)⟩

section

variable (c : Chan) (h : Hit) (k : HitEnd) (ph : Phase) (held : Bool) (s : State)

@[simp] theorem endSequence_tracker : (endSequence c h k ph held s).tracker = s.tracker := by
  obtain ⟨a, r⟩ := endSequence_reach c h k ph held s
  exact r.tracker
@[simp] theorem endSequence_units : (endSequence c h k ph held s).units = s.units := by
  obtain ⟨a, r⟩ := endSequence_reach c h k ph held s
  exact r.units
@[simp] theorem endSequence_monitor : (endSequence c h k ph held s).monitor = s.monitor := by
  obtain ⟨a, r⟩ := endSequence_reach c h k ph held s
  exact r.monitor
@[simp] theorem endSequence_staged : (endSequence c h k ph held s).staged = s.staged := by
  obtain ⟨a, r⟩ := endSequence_reach c h k ph held s
  exact r.staged
@[simp] theorem endSequence_active : (endSequence c h k ph held s).active = s.active := by
  obtain ⟨a, r⟩ := endSequence_reach c h k ph held s
  exact r.active
@[simp] theorem endSequence_responder : (endSequence c h k ph held s).responder = s.responder := by
  obtain ⟨a, r⟩ := endSequence_reach c h k ph held s
  exact r.responder
@[simp] theorem endSequence_ready : (endSequence c h k ph held s).ready = s.ready := by
  obtain ⟨a, r⟩ := endSequence_reach c h k ph held s
  exact r.ready
@[simp] theorem endSequence_freeDraws : (endSequence c h k ph held s).freeDraws = s.freeDraws := by
  obtain ⟨a, r⟩ := endSequence_reach c h k ph held s
  exact r.freeDraws
@[simp] theorem endSequence_pending : (endSequence c h k ph held s).pending = s.pending := by
  obtain ⟨a, r⟩ := endSequence_reach c h k ph held s
  exact r.pending
@[simp] theorem endSequence_phase : (endSequence c h k ph held s).controller.phase = s.controller.phase := by
  obtain ⟨a, r⟩ := endSequence_reach c h k ph held s
  exact r.phase
@[simp] theorem endSequence_mutedFrom : (endSequence c h k ph held s).controller.mutedFrom = s.controller.mutedFrom := by
  obtain ⟨a, r⟩ := endSequence_reach c h k ph held s
  exact r.mutedFrom
@[simp] theorem endSequence_queue : (endSequence c h k ph held s).controller.queue = s.controller.queue := by
  obtain ⟨a, r⟩ := endSequence_reach c h k ph held s
  exact r.queue
@[simp] theorem endSequence_stalled : (endSequence c h k ph held s).controller.stalled = s.controller.stalled := by
  obtain ⟨a, r⟩ := endSequence_reach c h k ph held s
  exact r.stalled
@[simp] theorem endSequence_phaseEvents : (endSequence c h k ph held s).controller.phaseEvents = s.controller.phaseEvents := by
  obtain ⟨a, r⟩ := endSequence_reach c h k ph held s
  exact r.phaseEvents
@[simp] theorem endSequence_ruptured : (endSequence c h k ph held s).controller.ruptured = s.controller.ruptured := by
  obtain ⟨a, r⟩ := endSequence_reach c h k ph held s
  exact r.ruptured
@[simp] theorem endSequence_ramp : (endSequence c h k ph held s).controller.ramp = s.controller.ramp := by
  obtain ⟨a, r⟩ := endSequence_reach c h k ph held s
  exact r.ramp
@[simp] theorem endSequence_lastRamp : (endSequence c h k ph held s).controller.lastRamp = s.controller.lastRamp := by
  obtain ⟨a, r⟩ := endSequence_reach c h k ph held s
  exact r.lastRamp
@[simp] theorem endSequence_unloadNoted : (endSequence c h k ph held s).controller.unloadNoted = s.controller.unloadNoted := by
  obtain ⟨a, r⟩ := endSequence_reach c h k ph held s
  exact r.unloadNoted
@[simp] theorem endSequence_hold : (endSequence c h k ph held s).controller.hold = s.controller.hold := by
  obtain ⟨a, r⟩ := endSequence_reach c h k ph held s
  exact r.hold
@[simp] theorem endSequence_halted : (endSequence c h k ph held s).faults.halted = s.faults.halted := by
  obtain ⟨a, r⟩ := endSequence_reach c h k ph held s
  exact r.halted

/-- No answer is built or sent by an end sequence. -/
@[simp] theorem answerTrail_endSequence :
    answerTrail (endSequence c h k ph held s).outlet = answerTrail s.outlet := by
  unfold endSequence
  simp only [answerTrail_offerRecord]
  cases held <;> rfl

end

/-! ## Arrivals (R55, R56) -/

/-- An arrival changes the assembler's list, and otherwise what a report reaches. -/
theorem takeArrival_reach (x : Arrival) (s : State) : ∃ a, Reported (s.onAssembler fun _ => a) (takeArrival x s) := by
  unfold takeArrival
  split
  · exact ⟨s.assembler, .countUnassociated _⟩
  · exact ⟨s.assembler, (Reported.countUnassociated _).trans (.raise _ _)⟩
  · exact ⟨_, .refl _⟩

/-! ## Directives to all units -/

theorem foldl_onUnit_get (g : Chan → ChannelUnit → ChannelUnit) :
    ∀ (l : List Chan), l.Nodup → ∀ (s : State) (c : Chan),
      (l.foldl (fun s c => s.onUnit c (g c)) s).units[c] = if c ∈ l then g c s.units[c] else s.units[c] := by
  intro l
  induction l with
  | nil => simp
  | cons a l ih =>
    intro hl s c
    simp only [List.foldl_cons, List.nodup_cons] at *
    rw [ih hl.2]
    simp only [State.onUnit, State.onUnits_units, Fin.getElem_fin, Vector.getElem_set, List.mem_cons]
    by_cases h : c = a
    · subst h; simp [hl.1]
    · have h' : ¬ a.val = c.val := fun e => h (Fin.ext e.symm)
      simp [h, h']

theorem foldl_onUnit_eq (g : Chan → ChannelUnit → ChannelUnit) : ∀ (l : List Chan) (s : State),
    l.foldl (fun s c => s.onUnit c (g c)) s =
      s.onUnits fun _ => (l.foldl (fun s c => s.onUnit c (g c)) s).units := by
  intro l
  induction l with
  | nil => exact fun s => rfl
  | cons a l ih => intro s; rw [List.foldl_cons, ih]; rfl

/-- A change of every unit, one after the other, is one change of all units. -/
theorem foldl_onUnit_allChans (g : Chan → ChannelUnit → ChannelUnit) (s : State) :
    allChans.foldl (fun s c => s.onUnit c (g c)) s =
      s.onUnits fun us => mapVec (fun c => g c us[c]) (Vector.finRange 32) := by
  have e (u : Vector ChannelUnit 32) (h : u = mapVec (fun c => g c s.units[c]) (Vector.finRange 32)) :
      (s.onUnits fun _ => u) = s.onUnits fun us => mapVec (fun c => g c us[c]) (Vector.finRange 32) := by
    subst h; rfl
  rw [foldl_onUnit_eq]
  apply e
  generalize hu : (allChans.foldl (fun s c => s.onUnit c (g c)) s).units = u
  ext i hi : 1
  have h := foldl_onUnit_get g allChans (List.nodup_finRange 32) s ⟨i, hi⟩
  rw [hu, if_pos (mem_allChans _)] at h
  rw [mapVec_getElem]
  simpa using h

/-! ## The oldest sample of a lane (R19, log entry 4) -/

theorem State.onUnit_get (s : State) (c d : Chan) (f : ChannelUnit → ChannelUnit) :
    (s.onUnit c f).units[d] = if c = d then f s.units[c] else s.units[d] := by
  simp only [State.onUnit, State.onUnits_units, Fin.getElem_fin, Vector.getElem_set]
  by_cases h : c = d
  · subst h; simp
  · have : ¬ c.val = d.val := fun e => h (Fin.ext e)
    simp [h, this]

theorem State.onUnit_same (s : State) (c : Chan) (f : ChannelUnit → ChannelUnit) :
    (s.onUnit c f).units[c] = f s.units[c] := by simp

@[simp] theorem takeArrival_units (x : Arrival) (s : State) : (takeArrival x s).units = s.units := by
  obtain ⟨a, r⟩ := takeArrival_reach x s
  exact r.units

@[simp] theorem clipNotice_units (c : Chan) (n : Nat) (s : State) : (clipNotice c n s).units = s.units := rfl

theorem endHit_lane (c : Chan) (h : Hit) (k : HitEnd) (t : Tick) (s : State) :
    (endHit c h k t s).units[c].lane = s.units[c].lane := by
  simp only [endHit, setCtx, State.onUnit_same, endSequence_units]

theorem takeReady_lane (c : Chan) (x : LaneSample) (s : State) :
    (takeReady c x s).units[c].lane = s.units[c].lane := by
  simp only [takeReady, startHit]
  repeat' split
  all_goals simp only [endHit_lane, clipNotice_units, State.onUnit_same, takeArrival_units]

/-- A sample taken leaves the samples behind it (R19). -/
theorem takeSample_lane (c : Chan) (x : LaneSample) (s : State) :
    (takeSample c x s).units[c].lane = s.units[c].lane := by
  unfold takeSample
  split
  · rfl
  · exact takeReady_lane ..
  · simp only [takeOpen]
    repeat' split
    all_goals simp only [endHit_lane, setCtx, clipNotice_units, State.onUnit_same]
  · split
    · rfl
    · rw [takeReady_lane]; simp only [setCtx, State.onUnit_same]

/-- A unit with nothing left to take stands. -/
theorem runUnit_nil {c : Chan} {s : State} (h : s.units[c].lane = []) : runUnit c s = s := by
  simp only [runUnit, h, List.length_nil, runLane]

/-- A sample that waits for a step of its own stays, with those behind it. -/
theorem runUnit_waits {c : Chan} {s : State} {x : LaneSample} {xs : List LaneSample} (h : s.units[c].lane = x :: xs)
    (he : sampleEvent s.units[c].ctx x ≠ .ordinary) : runUnit c s = s := by
  simp only [runUnit, h, List.length_cons, runLane]
  rw [if_pos]
  simp only [dueEvent, h]
  simpa using he

/-- Any other is taken, and the unit goes on. -/
theorem runUnit_takes {c : Chan} {s : State} {x : LaneSample} {xs : List LaneSample} (h : s.units[c].lane = x :: xs)
    (he : sampleEvent s.units[c].ctx x = .ordinary) :
    runUnit c s = runUnit c (takeSample c x (s.onUnit c fun u => { u with lane := xs })) := by
  simp only [runUnit, h, List.length_cons, runLane]
  rw [if_neg]
  · simp only [takeHead, h]
    rw [takeSample_lane, State.onUnit_same]
  · simp only [dueEvent, h, List.isEmpty_cons, he]; decide

/-- Draining takes the oldest sample and goes on until none is left. -/
theorem drainUnit_nil {c : Chan} {s : State} (h : s.units[c].lane = []) : drainUnit c s = s := by
  simp only [drainUnit, h, List.length_nil, takeLane]

theorem drainUnit_cons {c : Chan} {s : State} {x : LaneSample} {xs : List LaneSample} (h : s.units[c].lane = x :: xs) :
    drainUnit c s = drainUnit c (takeSample c x (s.onUnit c fun u => { u with lane := xs })) := by
  simp only [drainUnit, h, List.length_cons, takeLane, takeHead]
  rw [takeSample_lane, State.onUnit_same]

end Sys2Proof.Machine
end

