-- ==== Sys2Proof/Laws/Management.lean ====
section
/-! SUPPORT. What the arrival of a management frame comes to: an accepted frame is carried out at once, and the answer it
builds takes the place its reservation held. -/
namespace Sys2Proof.Machine

/-- The frame that the inlet hands on. -/
def frameInHand (k : MgmtKind) (f : Frame) : MgmtFrame := { kind := k, tag := byteAt f.payload 0, body := f.payload.drop 1 }

/-- The state in which the responder carries out an accepted frame: one reservation more, the frame in hand. -/
def inHand (k : MgmtKind) (f : Frame) (s : State) : State :=
  { s with outlet := { s.outlet with reservations := s.outlet.reservations + 1 }
           responder := { inHand := some (frameInHand k f), waiting := [] } }

theorem mgmtOf_of_length {k : MgmtKind} {f : Frame} (h : mgmtLengthOk k f.payload = true) :
    mgmtOf k f.payload = some (frameInHand k f) := by
  simp [mgmtOf, h, frameInHand]

/-- An accepted frame is carried out whole on arrival (R143, R154). -/
theorem mgmtArrives_accepted {k : MgmtKind} {f : Frame} {s : State} (h : Accepted k f s) :
    mgmtArrives k (mgmtKindCode k) f s = release (carryOut (frameInHand k f) (inHand k f s)) := by
  have hroom : answersFull s.outlet = false := by
    have := h.room
    exact decide_eq_false (by show ¬8 ≤ _; omega)
  simp [mgmtArrives, receive, h.running, h.check, mgmtOf_of_length h.length, acceptMgmt, hroom, h.responder, serve,
    takeInHand, inHand, State.onOutlet, State.onResponder]

/-- The arbiter and the responder do not meet. -/
theorem release_arbitrate (s : State) : release (arbitrate s) = arbitrate (release s) :=
  (arbitrate_onResponder _ s).symm

/-- An answer built with a frame in hand takes the place of its reservation (R144). -/
theorem release_answer {k : MgmtKind} {f : Frame} {a : Answer} {s t : State}
    (h : t = { s with responder := { inHand := some (frameInHand k f), waiting := [] },
                      outlet := { s.outlet with reservations := s.outlet.reservations + 1 } })
    (hr : s.responder = { inHand := none, waiting := [] }) : release (answer a t) = answered a s := by
  subst h
  rw [answer, release_arbitrate, answered]
  congr 1
  rcases s with ⟨_, _, _, _, _, _, _, _, r, _, _, _, _⟩
  cases hr; rfl

/-- An accepted frame whose carrying out builds one answer on the state `t`: the answer takes the reservation's place. -/
theorem mgmtArrives_answered {k : MgmtKind} {f : Frame} {s t : State} {a : Answer} (h : Accepted k f s)
    (hr : t.responder = s.responder) (hc : carryOut (frameInHand k f) (inHand k f s) = answer a (inHand k f t)) :
    mgmtArrives k (mgmtKindCode k) f s = answered a t := by
  rw [mgmtArrives_accepted h, hc]
  exact release_answer (k := k) (f := f) rfl (by rw [hr, h.responder])

/-! ## Fields behind the tag -/

theorem fieldAt_drop (p : List Byte) (a b w : Nat) : fieldAt (p.drop a) b w = fieldAt p (a + b) w := by
  simp [fieldAt, List.drop_drop]

theorem fieldAt_tail (p : List Byte) (b w : Nat) : fieldAt p.tail b w = fieldAt p (1 + b) w := by
  rw [← fieldAt_drop, List.drop_one]

end Sys2Proof.Machine
end

