-- ==== Sys2Proof/Laws/Pass.lean ====
section
/-! SUPPORT. What a settle pass comes to when the assembler has nothing due: the controller's stage, and the end of the
pass (R13, R14, R95). -/
namespace Sys2Proof.Machine

theorem foldl_fixed {α β : Type} (f : β → α → β) (b : β) (l : List α) (h : ∀ a ∈ l, f b a = b) : l.foldl f b = b := by
  induction l with
  | nil => rfl
  | cons a l ih => rw [List.foldl_cons, h a (by simp), ih fun x hx => h x (by simp [hx])]

/-- With nothing due the assembler's stage changes nothing (R61, R64). -/
theorem assemblerStage_nothingDue {s : State} (h : nothingDue s) : assemblerStage s = s := by
  obtain ⟨h1, h2, h3⟩ := h
  have e : settledEntries (passTick s) s = [] := by
    unfold settledEntries
    cases ha : s.assembler.arrivals with
    | nil => rfl
    | cons x xs =>
      have := h2 x (by simp [ha])
      simp only [List.takeWhile_cons]
      rw [if_neg]
      simpa using this
  simp only [assemblerStage, e, takeEntries, List.foldl_nil]
  rw [foldl_fixed (examineSlot _) s]
  · simp only [deliverNotices, h1, List.foldl_nil]
    rcases s with ⟨_, _, ⟨⟩⟩
    simp at h1
    subst h1
    rfl
  · intro i _
    unfold examineSlot
    split
    · rfl
    · next e he => rw [h3 i e he]

/-- A pass with nothing due is the controller's stage and the end of the pass. -/
theorem settlePass_nothingDue {s t : State} (h : PassRuns s) (ht : controllerStage s = t) (h1 : t.faults.halted = false)
    (h2 : t.tracker.waiting = none) : exec .settlePass s = .next (passOver t) := by
  show Host.Outcome.next (runPass s) = _
  simp only [runPass, h.pass, if_true, assemblerStage_nothingDue h.due, ht, endPass, h1, h2]
  rfl

/-- HOLD-QUIET sets marks at most (R106). -/
theorem Reported.holdQuiet (s : State) : Reported s (holdQuiet s) := by
  unfold Machine.holdQuiet
  split
  · exact .setMarks _ _
  · exact .refl _

theorem holdQuiet_outlet (s : State) : (holdQuiet s).outlet = s.outlet := by unfold holdQuiet; split <;> rfl

theorem holdQuiet_faults (s : State) : (holdQuiet s).faults = s.faults := by unfold holdQuiet; split <;> rfl

/-- A legal head is carried out after HOLD-QUIET (R95). -/
theorem controllerStage_legal {s : State} {q : QueuedOrder} {rest : List QueuedOrder} (hq : s.controller.queue = q :: rest)
    (hl : orderLegal s.controller.phase q.order = true) : controllerStage s = takeOrder q (holdQuiet s) := by
  have r := Reported.holdQuiet s
  simp only [controllerStage, examineHead, r.queue, hq, r.phase, hl, if_true]

end Sys2Proof.Machine
end

