-- ==== Sys2Proof/Laws/PerInstr.lean ====
section
/-! SUPPORT. One lemma per command for the statement that holds of every command: the kind byte and the frame it arrives as
name it again (R170, R172). `LinkReadsBackEveryFrame` rests on it. -/
namespace Sys2Proof.Laws

open Sys2Proof.Machine

/-- The command is named again by the kind byte and the frame it arrives as; an ORDER frame by its order byte, one of 1 to
9. -/
def Link.Statement (i : Instr) : Prop :=
  ∀ (k : Byte) (f : Frame), commandFrame i = some (k, f) → wellFormed i = true →
    (k = kindOrder → ∃ b, orderByte f = some b ∧ 1 ≤ b.toNat ∧ b.toNat ≤ 9) → frameCommand k f = i

/-- A command that is no frame's arrival. -/
theorem Link.of_none {i : Instr} (h : commandFrame i = none) : Link.Statement i := by
  intro k f hk
  rw [h] at hk
  cases hk

/-- An order byte of 1 to 9 in a frame that may stand under the row `code` is that row's. -/
theorem Link.orderByte_eq {code : Byte} {f : Frame} (hc : orderRowOk code f = true)
    (h : ∃ b, orderByte f = some b ∧ 1 ≤ b.toNat ∧ b.toNat ≤ 9) : orderByte f = some code := by
  obtain ⟨b, hb, h1, h9⟩ := h
  simp only [orderRowOk, hb, Bool.or_eq_true, beq_iff_eq, decide_eq_true_eq] at hc
  rcases hc with (rfl | h0) | h0
  · exact hb
  · omega
  · omega

/-- An ORDER command is named by its order byte. -/
theorem Link.of_order {i : Instr} {code : Byte} {f : Frame} (hf : commandFrame i = some (kindOrder, f))
    (hw : wellFormed i = true → orderRowOk code f = true) (hc : orderByte f = some code → orderCommand f = i) :
    Link.Statement i := by
  intro k g hk w h
  rw [hf] at hk
  cases hk
  exact hc (Link.orderByte_eq (hw w) (h rfl))

theorem Link.powerOnReset : Link.Statement .powerOnReset := Link.of_none rfl
theorem Link.settlePass : Link.Statement .settlePass := Link.of_none rfl
theorem Link.normalEnd (c : Chan) : Link.Statement (.normalEnd c) := Link.of_none rfl
theorem Link.longEnd (c : Chan) : Link.Statement (.longEnd c) := Link.of_none rfl
theorem Link.rearmEnd (c : Chan) : Link.Statement (.rearmEnd c) := Link.of_none rfl
theorem Link.readyLine (level : Bool) : Link.Statement (.readyLine level) := Link.of_none rfl
theorem Link.transmissionComplete : Link.Statement .transmissionComplete := Link.of_none rfl

theorem Link.sample (f : Frame) : Link.Statement (.sample f) := by
  intro k g hk _ _
  cases hk
  rfl

theorem Link.settle (f : Frame) : Link.Statement (.settle f) := by
  intro k g hk _ _
  cases hk
  rfl

theorem Link.process (f : Frame) : Link.Statement (.process f) := by
  intro k g hk _ _
  cases hk
  rfl

theorem Link.identify (f : Frame) : Link.Statement (.identify f) := by
  intro k g hk _ _
  cases hk
  rfl

theorem Link.writeTable (f : Frame) : Link.Statement (.writeTable f) := by
  intro k g hk _ _
  cases hk
  rfl

theorem Link.readTable (f : Frame) : Link.Statement (.readTable f) := by
  intro k g hk _ _
  cases hk
  rfl

theorem Link.readState (f : Frame) : Link.Statement (.readState f) := by
  intro k g hk _ _
  cases hk
  rfl

theorem Link.setMark (f : Frame) : Link.Statement (.setMark f) := by
  intro k g hk _ _
  cases hk
  rfl

theorem Link.dropOrders (f : Frame) : Link.Statement (.dropOrders f) := by
  intro k g hk _ _
  cases hk
  rfl

theorem Link.clearConditions (f : Frame) : Link.Statement (.clearConditions f) := by
  intro k g hk _ _
  cases hk
  rfl

theorem Link.resetLink (f : Frame) : Link.Statement (.resetLink f) := by
  intro k g hk _ _
  cases hk
  rfl

theorem Link.arm (f : Frame) : Link.Statement (.arm f) :=
  Link.of_order (code := 1) rfl (fun w => (Bool.and_eq_true_iff.mp w).2) fun h => by simp [orderCommand, h]

theorem Link.ramp (f : Frame) : Link.Statement (.ramp f) :=
  Link.of_order (code := 2) rfl (fun w => (Bool.and_eq_true_iff.mp w).2) fun h => by simp [orderCommand, h]

theorem Link.hold (f : Frame) : Link.Statement (.hold f) :=
  Link.of_order (code := 3) rfl (fun w => (Bool.and_eq_true_iff.mp w).2) fun h => by simp [orderCommand, h]

theorem Link.unload (f : Frame) : Link.Statement (.unload f) :=
  Link.of_order (code := 4) rfl (fun w => (Bool.and_eq_true_iff.mp w).2) fun h => by simp [orderCommand, h]

theorem Link.mute (f : Frame) : Link.Statement (.mute f) :=
  Link.of_order (code := 5) rfl (fun w => (Bool.and_eq_true_iff.mp w).2) fun h => by simp [orderCommand, h]

theorem Link.unmute (f : Frame) : Link.Statement (.unmute f) :=
  Link.of_order (code := 6) rfl (fun w => (Bool.and_eq_true_iff.mp w).2) fun h => by simp [orderCommand, h]

theorem Link.swap (f : Frame) : Link.Statement (.swap f) :=
  Link.of_order (code := 7) rfl (fun w => (Bool.and_eq_true_iff.mp w).2) fun h => by simp [orderCommand, h]

theorem Link.await (f : Frame) : Link.Statement (.await f) :=
  Link.of_order (code := 8) rfl (fun w => (Bool.and_eq_true_iff.mp w).2) fun h => by simp [orderCommand, h]

theorem Link.finish (f : Frame) : Link.Statement (.finish f) :=
  Link.of_order (code := 9) rfl (fun w => (Bool.and_eq_true_iff.mp w).2) fun h => by simp [orderCommand, h]

theorem Link.unknownKind (kind : Byte) (f : Frame) : Link.Statement (.unknownKind kind f) := by
  intro k g hk w _
  cases hk
  have hn : inletKinds.contains kind = false := by simpa using (Bool.and_eq_true_iff.mp w).2
  simp only [inletKinds, List.contains_eq_mem, List.mem_cons, List.not_mem_nil, or_false, decide_eq_false_iff_not,
    not_or] at hn
  simp [frameCommand, hn]

end Sys2Proof.Laws
end

