-- ==== Sys2Proof/Laws/Ranges.lean ====
section
/-! SUPPORT. The ranges of an OPEN hit's parts (R17), said once for the two ways the parts come about: the start of a hit
(R22) and the bookkeeping of one further sample (R25 to R28). -/
namespace Sys2Proof.Machine

/-- A hit that starts and does not end at once has its parts in range (R17, R22). -/
theorem startedHit_sound {e : ChannelEntry} {x : LaneSample} {l : Listing} (he : channelEntryOk e)
    (hm : modeListens e.mode = true) (h1 : e.threshold ≤ x.value.natAbs) (h2 : x.value.natAbs ≤ 32768)
    (h3 : 1 < e.limit) : hitSound (startedHit e x l) := by
  obtain ⟨_, _, _, _, _, _, _, _, _, _, _, _, _⟩ := he
  refine ⟨⟨?_, ?_, ?_, ?_, ?_, ?_, ?_, ?_, ?_, ?_, ?_, hm⟩, rfl, ?_, ?_, h1, h2, ?_, ?_, ?_, ?_, ?_, ?_, ?_, ?_, ?_⟩
  all_goals simp only [startedHit, snapshotOf, magnitude]
  all_goals first | omega | (simp only [Tick] at *; omega)

/-- A sample of an OPEN hit that ends nothing keeps its parts in range (R17, R25 to R30). -/
theorem trackHit_sound {h : Hit} {x : LaneSample} (hs : hitSound h) (h1 : x.value.natAbs ≤ 32768)
    (h2 : h.lastSupra + h.quietRun < x.tick) (h3 : (trackHit h x).quietRun < h.snap.quiet)
    (h4 : x.tick + 1 < h.raw + h.snap.limit) : hitSound (trackHit h x) := by
  obtain ⟨hp, _, _, _, _, _, _, _, _, _, _, _, _, _, _⟩ := hs
  have hp' := hp
  obtain ⟨_, _, _, _, _, _, _, _, _, _, _, _⟩ := hp
  have hc : Config.count16Max = 65535 := rfl
  generalize hm : x.value.natAbs = m at h1
  refine ⟨hp', ‹_›, ?_⟩
  simp only [Tick] at *
  simp only [trackHit, magnitude, hm, countUp, hc, Bool.and_eq_true, decide_eq_true_eq] at h3 ⊢
  by_cases ha : h.snap.threshold ≤ m <;> by_cases hw : x.tick < h.raw + h.snap.peakWindow ∧ h.peak < m <;>
    simp only [ha, hw, if_true, if_false, true_and, false_and, and_self] at h3 ⊢
  all_goals try refine ⟨?_, ?_, ?_, ?_, ?_, ?_, ?_, ?_, ?_, ?_, ?_, ?_, ?_⟩
  all_goals first | omega | (split_ifs <;> omega)

end Sys2Proof.Machine
end

