-- ==== Sys2Proof/Tests/Slice0.lean ====
section
/-! SUPPORT. Tests of the model: the checks of WellFormed, the frame check, frames read from the link, one or two small
steps for each command with results from the manual's worked sequences, and for every statement that has hypotheses a
concrete state and operands that meet them together. -/
namespace Sys2Proof.Tests

open Sys2Proof.Machine

-- One theorem at a time: each kernel evaluation that runs beside the others takes a thread and its stack.
set_option Elab.async false

/-! ## Helpers -/

/-- The state after a command. -/
def after (c : Instr) (s : State) : State :=
  match exec c s with
  | .next t => t
  | .fault _ => s
  | .refused _ => s

/-- Eight lanes of one tick, all with the same sample. -/
def levelSet (x : Int) : List Byte := (List.replicate 8 (natBE 2 (BitVec.ofInt 16 x).toNat)).flatten

/-- A SAMPLE frame of `n` ticks with the sample `x` on every lane (R172). -/
def sampleFrame (card start n : Nat) (x : Int) : Frame :=
  intactFrame kindSample (natBE 1 card ++ natBE 6 start ++ natBE 1 n ++ (List.replicate n (levelSet x)).flatten)

def settleFrame (b : Nat) : Frame := intactFrame kindSettle (natBE 6 b)

def processFrame (valid : Bool) (p : Nat) : Frame :=
  intactFrame kindProcess (natBE 6 0 ++ [if valid then 1 else 0] ++ natBE 3 p)

/-- A management frame: tag and body (R172). -/
def mgmtFrame (kind : Byte) (tag : Byte) (body : List Byte) : Frame := intactFrame kind (tag :: body)

def orderFrame (tag code argument : Byte) : Frame := mgmtFrame kindOrder tag [code, argument]

theorem intact_ok (k : Byte) (p : List Byte) : checkOk k (intactFrame k p) = true := by simp [checkOk, intactFrame]

/-- A frame whose check is wrong. -/
def spoiled (f : Frame) : Frame := { f with check := f.check ^^^ 1#16 }

def inPhase (p : Phase) : State := { State.reset with controller := { Controller.initial with phase := p } }

def halted : State := { State.reset with faults := { FaultUnit.initial with halted := true } }

/-- Channel 5 as in the worked hit of section 2.10. -/
def entry5 : ChannelEntry :=
  { ChannelEntry.initial with mode := .listen, threshold := 400, gain := 6, delay := 3, quiet := 4, peakWindow := 6,
                              rearm := 3, limit := 1000, shift := 2 }

def tables5 : Tables := { Tables.initial with channels := Tables.initial.channels.set 5 entry5 }

/-- Channel 12 in LISTEN with delay 120 (section 1.8). -/
def tables12 : Tables :=
  { Tables.initial with channels :=
      Tables.initial.channels.set 12 { ChannelEntry.initial with mode := .listen, delay := 120 } }

/-- The part in ARMED with channel 5's unit as given. -/
def unit5 (ctx : Context) (lane : List LaneSample) : State :=
  { inPhase .armed with active := tables5
                        units := (Vector.replicate 32 ChannelUnit.initial).set 5 { serial := 42, ctx, lane } }

/-- The hit of section 2.10 after the sample at tick 1012. -/
def hit42 : Hit :=
  { snap := snapshotOf entry5, raw := 1001, comp := 998, listing := .listed, lastSupra := 1009, above := false,
    crossings := 3, peak := 1300, peakTick := 1005, clip := false, energy := 6460, quietRun := 3, quietSum := 180 }

/-- A pass at S = `t`, with the given orders queued. -/
def passAt (t : Tick) (p : Phase) (queue : List QueuedOrder) : State :=
  { State.reset with
    tracker := { Tracker.initial with last := some t, settled := some t, passInProgress := true }
    controller := { Controller.initial with phase := p, queue := queue }
    outlet := { State.reset.outlet with reservations := queue.length } }

def aRamp : Ramp := { number := 1, reload := true, pref := some 20000, events := 4, onset := .undecided }

def aHold : Hold := { entry := 16000, tally := 0, quietRef := 16000 }

def aHitRecord : HitRecord := hitRecord 5 42 hit42 .normal .armed State.reset

def anEvent : Event :=
  { number := 1, first := 878, window := 200, span := 300, guarded := false,
    members := [{ newArrival 12 3 878 .listen with ended := true, peakDb := some 40 }] }

def aFault : FaultRecord := firstFault .frameCheck (some 1) State.reset

def aDouble : FaultRecord := { aFault with second := some .tickGap, secondSelector := some 0 }

def withSlot (r : FaultRecord) (s : State) : State := s.onOutlet fun o => { o with faultSlot := some r }

def withRecords (n : Nat) (s : State) : State :=
  s.onOutlet fun o => { o with records := List.replicate n (.identity .link) }

def withBuffer (n : Nat) (s : State) : State :=
  s.onOutlet fun o => { o with passBuffer := List.replicate n { kind := kindSettle, frame := settleFrame 9 } }

/-! ## WellFormed: one ill-formed term for each check -/

theorem test_wellFormed_payload_too_long :
    wellFormed (.sample { payload := List.replicate 65536 0, check := 0 }) = false := by
  show decide ((List.replicate 65536 (0 : Byte)).length < 65536) = false
  rw [List.length_replicate]
  rfl

theorem test_wellFormed_longest_payload :
    wellFormed (.sample { payload := List.replicate 65535 0, check := 0 }) = true := by
  show decide ((List.replicate 65535 (0 : Byte)).length < 65536) = true
  rw [List.length_replicate]
  rfl

theorem test_wellFormed_wrong_order_row : wellFormed (.hold (orderFrame 1 2 0)) = false := by decide +kernel

theorem test_wellFormed_order_outside_codes : wellFormed (.hold (orderFrame 1 10 0)) = true := by decide +kernel

theorem test_wellFormed_listed_kind_as_unknown : wellFormed (.unknownKind 0x18 ⟨[], 0⟩) = false := by decide

/-! ## The link (R170) -/

/-- The check of the nine bytes 31h to 39h is 29B1h (R170). -/
theorem test_crc : crc [0x31, 0x32, 0x33, 0x34, 0x35, 0x36, 0x37, 0x38, 0x39] = 0x29B1#16 := by decide +kernel

/-- A SETTLE frame, written byte by byte from R170 and R172: kind 02h, length 6, tick 1040. -/
theorem test_link_settle : linkCommand [0x02, 0, 6, 0, 0, 0, 0, 4, 0x10, 0xAB, 0xCD] =
    some (.settle { payload := [0, 0, 0, 0, 4, 0x10], check := 0xABCD }) := by decide +kernel

/-- An ORDER frame of tag 2Bh naming HOLD, code 3 (R171, R172). -/
theorem test_link_order : linkCommand [0x13, 0, 3, 0x2B, 3, 0, 0, 0] =
    some (.hold { payload := [0x2B, 3, 0], check := 0 }) := by decide +kernel

/-- SET-MARK 1 with tag 2Ah (R172). -/
theorem test_link_setMark : linkCommand [0x15, 0, 2, 0x2A, 1, 0, 0] =
    some (.setMark { payload := [0x2A, 1], check := 0 }) := by decide +kernel

/-- A frame of kind 04h, which the inlet does not list, and one that ends early (R170). -/
theorem test_link_unknown_and_short :
    linkCommand [0x04, 0, 0, 0, 0] = some (.unknownKind 4 { payload := [], check := 0 }) ∧
    linkCommand [0x15, 0, 2, 0x2A, 0, 0] = none := by decide +kernel

/-! ## Commands -/

/-- R152: the IDENTITY record in the record queue. -/
theorem test_powerOnReset : (after .powerOnReset (inPhase .burst)).outlet.records = [.identity .powerOn] ∧
    (after .powerOnReset (inPhase .burst)).controller.phase = .idle := by decide +kernel

/-- Section 1.8 step 9: card 2's first frame starts at 1030, below B = 1040: TICK-OVERLAP of card 2 (one tick of it). -/
theorem test_sample_overlap :
    let s := { inPhase .armed with tracker := { Tracker.initial with last := some 1040, settled := some 920 } }
    ((after (.sample (sampleFrame 2 1030 1 0)) s).outlet.faultSlot.map fun r => (r.code, r.selector)) =
      some (.tickOverlap, some 2) := by decide +kernel

/-- Section 1.8 step 11: a gap of card 0 at 1080, TICK-GAP, and 1112 is expected next (the frame past the inlet). -/
theorem test_sample_gap :
    let s := { inPhase .armed with tracker :=
      { Tracker.initial with expected := #v[some 1064, some 1048, some 1088, some 1072], last := some 1040 } }
    let t := trackSample { card := 0, start := 1080, sets := List.replicate 32 [] } s
    (t.outlet.faultSlot.map fun r => r.code) = some .tickGap ∧ t.tracker.expected[0] = some 1112 := by decide +kernel

/-- Section 1.8 step 6: SETTLE 1040 with card 3 at 1016 and dmax 120: LANE-LAG, expected 1040 with its lag flag, S = 920. -/
theorem test_settle_lag :
    let s := { inPhase .armed with
      tracker := { Tracker.initial with expected := #v[some 1064, some 1048, none, some 1016] }
      active := tables12 }
    let t := after (.settle (settleFrame 1040)) s
    t.tracker.expected = #v[some 1064, some 1048, none, some 1040] ∧ t.tracker.lag = #v[false, false, false, true] ∧
    t.tracker.settled = some 920 := by decide +kernel

/-- Section 1.8 step 12: SETTLE 1040 again is SETTLE-DISORDER. -/
theorem test_settle_disorder :
    let s := { inPhase .armed with tracker := { Tracker.initial with last := some 1040, settled := some 920 } }
    ((after (.settle (settleFrame 1040)) s).outlet.faultSlot.map fun r => r.code) = some .settleDisorder := by
  decide +kernel

/-- Section 6.10 step 4: 20,050 kPa sets the mark of PRESSURE-AT-LEAST 20,000, and 19,800 kPa does not. -/
theorem test_process :
    let s := { inPhase .ramp with active :=
      { Tables.initial with test := { TestTable.initial with mark0 := ⟨.pressureAtLeast, 20000⟩ } } }
    (after (.process (processFrame true 19800)) s).controller.mark0 = false ∧
    (after (.process (processFrame true 20050)) s).controller.mark0 = true := by decide +kernel

/-- Section 6.10 step 3: AWAIT 0 with the mark clear stays, stalled. -/
theorem test_settlePass_stalls :
    (after .settlePass (passAt 12000 .armed [⟨.await .zero, 1⟩])).controller.stalled = true := by decide +kernel

/-- Section 6.11 step 1, continued: AWAIT 0 examined in BURST is REFUSED-PHASE. -/
theorem test_settlePass_refuses :
    (after .settlePass (passAt 80000 .burst [⟨.await .zero, 9⟩, ⟨.finish, 10⟩])).outlet.answers =
      [orderAnswer 9 .refusedPhase] := by decide +kernel

/-- Section 2.10: the sample at tick 1013 ends the hit normally, with readiness tick 1017; 9 ticks, energy 1615. -/
theorem test_normalEnd :
    let t := after (.normalEnd 5) (unit5 (.openHit hit42) [⟨1013, 10⟩])
    (t.units[5]).ctx = .rearm 1017 ∧
    (t.outlet.records.filterMap fun r => match r with | .hit h => some (h.duration, h.energy, h.peakDb) | _ => none) =
      [(9, 1615, 9)] := by decide +kernel

/-- Section 2.11, last paragraph: L = 10, start at 500, last supra-threshold tick 506: LONG at 509 with duration 10. -/
theorem test_longEnd :
    let h := { hit42 with snap := { hit42.snap with limit := 10 }, raw := 500, lastSupra := 506, quietRun := 2 }
    let t := after (.longEnd 5) (unit5 (.openHit h) [⟨509, 10⟩])
    (t.outlet.records.filterMap fun r => match r with | .hit h => some (h.long, h.endTick, h.duration) | _ => none) =
      [(true, 509, 10)] := by decide +kernel

/-- Section 2.10: a supra-threshold sample at 1017 starts hit 43. -/
theorem test_rearmEnd :
    let t := after (.rearmEnd 5) (unit5 (.rearm 1017) [⟨1017, -450⟩])
    (t.units[5]).serial = 43 ∧ t.assembler.arrivals = [newArrival 5 43 1014 .listen] := by decide +kernel

/-- R141: the answer goes before the record. -/
theorem test_readyLine :
    let s := State.reset.onOutlet fun o => { o with answers := [orderAnswer 1 .done] }
    (after (.readyLine true) s).outlet.sending = some (.answer (orderAnswer 1 .done)) ∧
    (after .transmissionComplete (after (.readyLine true) s)).outlet.sending = some (.record (.identity .powerOn)) := by
  decide +kernel

/-- Section 10.4, tags 41 and 42: IDENTIFY is DONE with the identity, SET-MARK 2 REFUSED-RANGE. -/
theorem test_identify_setMark :
    (after (.identify (mgmtFrame kindIdentify 41 [])) State.reset).outlet.answers = [⟨41, .identify, .done, .identity⟩] ∧
    (after (.setMark (mgmtFrame kindSetMark 42 [2])) State.reset).outlet.answers =
      [⟨42, .setMark, .refusedRange, .none⟩] := by decide +kernel

/-- Section 10.4, tag 44: two queued orders CANCELLED, then DONE. -/
theorem test_dropOrders :
    (after (.dropOrders (mgmtFrame kindDropOrders 44 [])) (passAt 9 .hold [⟨.await .one, 7⟩, ⟨.hold, 43⟩])).outlet.answers =
      [orderAnswer 7 .cancelled, orderAnswer 43 .cancelled, ⟨44, .dropOrders, .done, .none⟩] := by decide +kernel

/-- R131, R129: level 99 of the decibel table is written as 8000h, and 8001h is out of range. -/
theorem test_writeTable :
    (after (.writeTable (mgmtFrame kindWriteTable 1 [2, 99, 1, 0x80, 0x00])) State.reset).staged.levels[99] = 32768 ∧
    (after (.writeTable (mgmtFrame kindWriteTable 1 [2, 99, 1, 0x80, 0x01])) State.reset).outlet.answers =
      [⟨1, .writeTable, .refusedRange, .none⟩] := by decide +kernel

/-- R132, R129: levels 1 and 2 of the active copy after reset are 328 and 656. -/
theorem test_readTable :
    (after (.readTable (mgmtFrame kindReadTable 1 [2, 1, 1, 2])) State.reset).outlet.answers =
      [⟨1, .readTable, .done, .entries .decibel .active 1 2 (.decibel [328, 656])⟩] := by decide +kernel

/-- R157: a pending condition is seen after READ-STATE. -/
theorem test_readState :
    let s := State.reset.onFaults fun u => { u with pendingSet := u.pendingSet.insert .passLoss }
    (after (.readState (mgmtFrame kindReadState 1 [])) s).faults.seenSet = CondSet.empty.insert .passLoss := by
  decide +kernel

/-- R159, R171: PASS-LOSS is bit 2; pending and seen, it is cleared. -/
theorem test_clearConditions :
    let p := CondSet.empty.insert .passLoss
    let s := State.reset.onFaults fun u => { u with pendingSet := p, seenSet := p }
    (after (.clearConditions (mgmtFrame kindClearConditions 1 [0, 4])) s).faults.pendingSet = .empty := by decide +kernel

/-- R160, R161: RESET-LINK leaves HALTED. -/
theorem test_resetLink :
    (after (.resetLink (mgmtFrame kindResetLink 7 [])) halted).faults.halted = false ∧
    (after (.resetLink (mgmtFrame kindResetLink 7 [])) halted).outlet.answers = [⟨7, .resetLink, .done, .none⟩] := by
  decide +kernel

/-- R105: ARM in IDLE; R93: in any other phase REFUSED-PHASE. -/
theorem test_arm :
    (after (.arm (orderFrame 1 1 0)) State.reset).controller.phase = .armed ∧
    (after (.arm (orderFrame 1 1 0)) (inPhase .hold)).outlet.answers = [orderAnswer 1 .refusedPhase] := by decide +kernel

/-- R93: an order joins the queue's tail outside IDLE, for the seven rows that only queue. -/
theorem test_orders_queue :
    ([(Instr.ramp (orderFrame 1 2 0), Order.ramp), (.hold (orderFrame 1 3 0), .hold), (.unload (orderFrame 1 4 0), .unload),
      (.mute (orderFrame 1 5 0), .mute), (.unmute (orderFrame 1 6 0), .unmute),
      (.await (orderFrame 1 8 1), .await .one), (.finish (orderFrame 1 9 0), .finish)].all fun x =>
        (after x.1 (inPhase .burst)).controller.queue == [⟨x.2, 1⟩]) = true := by decide +kernel

/-- R92: the same rows in IDLE are REFUSED-PHASE. -/
theorem test_orders_in_idle :
    ([Instr.ramp (orderFrame 1 2 0), .hold (orderFrame 1 3 0), .unload (orderFrame 1 4 0), .mute (orderFrame 1 5 0),
      .unmute (orderFrame 1 6 0), .await (orderFrame 1 8 1), .finish (orderFrame 1 9 0)].all fun x =>
        (after x State.reset).outlet.answers == [orderAnswer 1 .refusedPhase]) = true := by decide +kernel

/-- R134: a swap of the channel table copies an entry that moves from LISTEN to GUARD with mode OFF, with MODE-SKIP. -/
theorem test_swap_skip :
    let s := { State.reset with active := tables5
                                staged := { tables5 with channels := tables5.channels.set 5 { entry5 with mode := .guard } } }
    let t := after (.swap (orderFrame 1 7 0)) s
    t.active.channels[5] = { entry5 with mode := .off } ∧
    (t.outlet.faultSlot.map fun r => (r.code, r.selector)) = some (.modeSkip, some 5) := by decide +kernel

/-- R138: a test table whose low mark is not below its high mark is refused. -/
theorem test_swap_refused :
    let s := { State.reset with staged :=
      { Tables.initial with test := { TestTable.initial with high := 100, low := 100 } } }
    (after (.swap (orderFrame 1 7 3)) s).outlet.answers = [orderAnswer 1 .refusedInvalid] ∧
    (after (.swap (orderFrame 1 7 3)) s).active = .initial := by decide +kernel

/-- R170: a frame of an unknown kind is FRAME-FORM with its kind byte as selector. -/
theorem test_unknownKind :
    ((after (.unknownKind 0x44 (intactFrame 0x44 [])) State.reset).outlet.faultSlot.map fun r => (r.code, r.selector)) =
      some (.frameForm, some 0x44) := by decide +kernel

/-- Section 5.5, the arithmetic across one pair: Δt of −508 gives 1499 within, +509 gives 0 outside. -/
theorem test_position :
    let e : PairEntry := { valid := true, a := 5, b := 12, spacing := 1500, velocity := 2950 }
    positionOf e (positionNum e 508 0) = (1499, false) ∧ positionOf e (positionNum e 0 509) = (0, true) ∧
    positionOf e (positionNum e 998 878) = (927, false) := by decide

/-- Section 3.3: a peak of 1300 under the default table has raw step 3; a sum of 139 is clamped to 127. -/
theorem test_peakDb : rawStep initialLevels 1300 = 3 ∧ clampDb 99 40 = 127 ∧ clampDb 2 (-20) = 0 := by decide +kernel

/-! ## Witnesses: a state and operands that meet the hypotheses of each statement together -/

theorem accepted_of {k : MgmtKind} {f : Frame} {s : State} (h1 : s.faults.halted = false)
    (h2 : checkOk (mgmtKindCode k) f = true) (h3 : mgmtLengthOk k f.payload = true)
    (h4 : s.outlet.reservations + s.outlet.answers.length < 8) (h5 : s.responder = { inHand := none, waiting := [] }) :
    Accepted k f s := ⟨h1, h2, h3, h4, h5⟩

/-- A management frame is accepted by the part after reset. -/
theorem accepted_reset {k : MgmtKind} {tag : Byte} {body : List Byte} (h : mgmtLengthOk k (tag :: body) = true) :
    Accepted k (mgmtFrame (mgmtKindCode k) tag body) State.reset :=
  accepted_of rfl (intact_ok _ _) h (by decide) rfl

/-- And in any phase. -/
theorem accepted_inPhase {k : MgmtKind} {p : Phase} {tag : Byte} {body : List Byte}
    (h : mgmtLengthOk k (tag :: body) = true) : Accepted k (mgmtFrame (mgmtKindCode k) tag body) (inPhase p) :=
  accepted_of rfl (intact_ok _ _) h (show 0 + 0 < 8 by decide) rfl

theorem witness_StepTakesFrontCommand :
    (State.reset.withPending [.settlePass, .powerOnReset]).pending = .settlePass :: [.powerOnReset] ∧
    State.reset.pending = [] := ⟨rfl, rfl⟩

theorem witness_EveryCommandCompletes : ∀ level, Instr.settlePass ≠ .readyLine level := by intro level h; cases h

/-- Accepted outside HALTED and in it; in HALTED a wrong check, and a payload of two bytes. -/
theorem witness_ResetLinkResetsAllButTables :
    (checkOk kindResetLink (mgmtFrame kindResetLink 7 []) = true ∧ (mgmtFrame kindResetLink 7 []).payload.length = 1) ∧
    (halted.faults.halted = true ∧ checkOk kindResetLink (spoiled (mgmtFrame kindResetLink 7 [])) = false) ∧
    (halted.faults.halted = true ∧ (mgmtFrame kindResetLink 7 [0]).payload.length ≠ 1) := by decide +kernel

theorem witness_HaltedUntilReset :
    (commandFrame (.settle (settleFrame 9)) = some (kindSettle, settleFrame 9) ∧
      (∀ g, Instr.settle (settleFrame 9) ≠ .resetLink g) ∧ halted.faults.halted = true) ∧
    (exec .powerOnReset halted = .next (powerOnReset halted) ∧ halted.faults.halted = true ∧
      (powerOnReset halted).faults.halted = false) :=
  ⟨⟨rfl, fun g h => (by cases h), rfl⟩, rfl, rfl, by decide +kernel⟩

theorem witness_BurstLeftOnlyToIdle :
    exec (.readyLine true) (inPhase .burst) = .next (setReady true (inPhase .burst)) ∧
    (inPhase .burst).controller.phase = .burst ∧ (inPhase .burst).responder.waiting = [] := ⟨rfl, rfl, rfl⟩

/-- S = 920 before the SETTLE frame of section 1.8 step 13 and 950 after it. -/
theorem witness_SettledTickNeverDecreases :
    let s := { inPhase .armed with tracker := { Tracker.initial with last := some 1040, settled := some 920 }
                                   active := tables12 }
    s.tracker.settled = some 920 ∧ (after (.settle (settleFrame 1070)) s).tracker.settled = some 950 := by
  decide +kernel

theorem witness_StagedCopyChangedOnlyByWrite :
    State.reset.responder.waiting = [] ∧
    (after (.writeTable (mgmtFrame kindWriteTable 1 [2, 99, 1, 0x80, 0x00])) State.reset).staged ≠ State.reset.staged := by
  decide +kernel

theorem witness_AnswersNeverDropped :
    let s := State.reset.onOutlet fun o => { o with answers := [orderAnswer 2 .done], sending := some (.answer (orderAnswer 1 .done)) }
    s.responder.waiting = [] ∧ Instr.transmissionComplete ≠ .powerOnReset ∧
    (∀ f, Instr.transmissionComplete ≠ .resetLink f) ∧ answerTrail s.outlet = [orderAnswer 1 .done, orderAnswer 2 .done] :=
  ⟨rfl, by decide, fun f h => (by cases h), rfl⟩

/-- The line deasserted, a frame in transmission, and neither. -/
theorem witness_ArbiterChoosesByStrictPriority :
    let busy := State.reset.onOutlet fun o => { o with sending := some (.record (.identity .link)) }
    State.reset.ready = false ∧ busy.outlet.sending ≠ none ∧
    (State.reset.withReady true).ready = true ∧ (State.reset.withReady true).outlet.sending = none := by decide +kernel

/-- HALTED; cut; 16 frames; 15 frames; a forwarding card and one that does not forward; both frames. -/
theorem witness_PassThroughOffer :
    let forwarding : Tables :=
      { Tables.initial with channels := Tables.initial.channels.set 9 { ChannelEntry.initial with forward := true } }
    halted.faults.halted = true ∧
    (State.reset.onOutlet fun o => { o with dense := true, cut := .cut }).outlet.cut = .cut ∧
    16 ≤ (withBuffer 16 State.reset).outlet.passBuffer.length ∧ (withBuffer 15 State.reset).outlet.passBuffer.length < 16 ∧
    (∃ l : Fin 8, forwarding.channels[laneChan 1 l].forward = true) ∧
    (∀ l : Fin 8, forwarding.channels[laneChan 0 l].forward = false) ∧
    (checkOk kindSample (sampleFrame 1 1000 1 0) = true ∧ (sampleOf (sampleFrame 1 1000 1 0).payload).isSome = true) ∧
    (checkOk kindSettle (settleFrame 9) = true ∧ (settleFrame 9).payload.length = 6) := by decide +kernel

/-- HALTED; dense mode with a HIT and with a GUARDED record; each limit reached and one below it; entry to dense mode at the
high mark of 384 exactly, and none at 383. -/
theorem witness_RecordOffers :
    halted.faults.halted = true ∧
    (State.reset.onOutlet fun o => { o with dense := true }).outlet.dense = true ∧
    (eventRecord { anEvent with guarded := true } .flush State.reset).cls = .guarded ∧
    (496 ≤ (withRecords 496 State.reset).outlet.records.length ∧ isDataRecord (.hit aHitRecord) = true) ∧
    ((withRecords 495 State.reset).outlet.records.length < 496) ∧
    (512 ≤ (withRecords 512 State.reset).outlet.records.length ∧ isDataRecord (.identity .link) = false) ∧
    ((withRecords 511 State.reset).outlet.records.length < 512) ∧
    (State.reset.active.test.high ≤ (withRecords 383 State.reset).outlet.records.length + 1 ∧
      (withRecords 383 State.reset).outlet.dense = false) ∧
    (State.reset.active.test.cutTiming = .immediate ∧
      ((withRecords 383 State.reset).onActive fun a =>
        { a with test := { a.test with cutTiming := .atSettle } }).active.test.cutTiming = .atSettle) ∧
    (withRecords 382 State.reset).outlet.records.length + 1 < State.reset.active.test.high := by decide +kernel

/-- Pending; clear and masked; clear and reported with room; clear and reported at a full queue. -/
theorem witness_ConditionRaise :
    let pended := State.reset.onFaults fun u => { u with pendingSet := u.pendingSet.insert .passLoss }
    let masked := { State.reset with active := { Tables.initial with test := { TestTable.initial with reportMask := .empty } } }
    pended.faults.pendingSet.has .passLoss = true ∧
    (masked.faults.pendingSet.has .passLoss = false ∧ masked.active.test.reportMask.has .passLoss = false) ∧
    (State.reset.faults.pendingSet.has .passLoss = false ∧ State.reset.active.test.reportMask.has .passLoss = true ∧
      State.reset.faults.halted = false ∧ (withRecords 511 State.reset).outlet.records.length < 512) ∧
    512 ≤ (withRecords 512 State.reset).outlet.records.length := by decide +kernel

/-- Also a WRITE-TABLE payload a byte short and a whole one, and one whose table byte names no table (R172). -/
theorem witness_FrameErrorsAreReported :
    commandFrame (.settle (settleFrame 9)) = some (kindSettle, settleFrame 9) ∧ State.reset.faults.halted = false ∧
    checkOk kindSettle (spoiled (settleFrame 9)) = false ∧
    (checkOk kindSettle (intactFrame kindSettle [1, 2, 3, 4, 5]) = true ∧
      payloadFits (.settle (intactFrame kindSettle [1, 2, 3, 4, 5])) = false) ∧
    (checkOk 0x44 (intactFrame 0x44 []) = true ∧ payloadFits (.unknownKind 0x44 (intactFrame 0x44 [])) = false) ∧
    mgmtLengthOk .writeTable [1, 2, 99, 1, 0x80] = false ∧ mgmtLengthOk .writeTable [1, 2, 99, 1, 0x80, 0] = true ∧
    mgmtLengthOk .writeTable [1, 4, 0, 9, 0] = true ∧ mgmtLengthOk .writeTable [1, 4, 0] = false := by
  decide +kernel

theorem witness_FaultReportActsOnTheSlot :
    State.reset.faults.halted = false ∧ State.reset.outlet.faultSlot = none ∧
    ((withSlot aFault State.reset).outlet.faultSlot = some aFault ∧ aFault.second = none) ∧
    ((withSlot aDouble State.reset).outlet.faultSlot = some aDouble ∧ aDouble.second ≠ none) := by decide +kernel

theorem witness_ThirdFaultHaltsThePart :
    let s := withSlot aDouble (passAt 9 .hold [⟨.await .one, 7⟩])
    commandFrame (.settle (spoiled (settleFrame 9))) = some (kindSettle, spoiled (settleFrame 9)) ∧
    checkOk kindSettle (spoiled (settleFrame 9)) = false ∧ s.faults.halted = false ∧
    s.outlet.faultSlot = some aDouble ∧ aDouble.second ≠ none := by decide +kernel

/-- In IDLE both frames; dense mode off; dense with the fill at the low mark of 128, and one above it. -/
theorem witness_FramesInIdle :
    let dense (n : Nat) := (withRecords n State.reset).onOutlet fun o => { o with dense := true, cut := .pending }
    FramePasses kindSample (sampleFrame 1 1000 1 0) State.reset ∧
    (sampleOf (sampleFrame 1 1000 1 0).payload).isSome = true ∧ State.reset.controller.phase = .idle ∧
    FramePasses kindSettle (settleFrame 9) State.reset ∧ (settleFrame 9).payload.length = 6 ∧
    State.reset.outlet.dense = false ∧
    ((dense 128).outlet.dense = true ∧ (dense 128).outlet.records.length ≤ (dense 128).active.test.low) ∧
    ((dense 129).outlet.dense = true ∧ (dense 129).active.test.low < (dense 129).outlet.records.length) :=
  ⟨⟨rfl, intact_ok _ _⟩, by decide +kernel, rfl, ⟨rfl, intact_ok _ _⟩, by decide, rfl, by decide +kernel, by decide +kernel⟩

/-- A frame that ends at B; one that starts below the expected tick; one that starts below B with none expected. A SETTLE
frame at B; one with a frame waiting; one with a pass and none waiting. -/
theorem witness_DisorderedFramesTurnedAway :
    let at1040 := { inPhase .armed with tracker := { Tracker.initial with last := some 1040, settled := some 920 } }
    let expecting := at1040.onTracker fun t => { t with expected := t.expected.set 2 (some 1050) }
    let passing := at1040.onTracker fun t => { t with passInProgress := true }
    let waiting := passing.onTracker fun t => { t with waiting := some 1050 }
    (FramePasses kindSample (sampleFrame 2 1039 1 0) at1040 ∧ at1040.controller.phase ≠ .idle ∧
      ((sampleOf (sampleFrame 2 1039 1 0).payload).map fun x => (x.card, x.start, x.sets.length)) = some (2, 1039, 1)) ∧
    (expecting.tracker.expected[2] = some 1050 ∧
      ((sampleOf (sampleFrame 2 1049 1 0).payload).map fun x => x.start) = some 1049) ∧
    (at1040.tracker.expected[2] = none ∧ at1040.tracker.last = some 1040) ∧
    (at1040.tracker.passInProgress = false ∧ beNat (settleFrame 1040).payload = 1040) ∧
    (waiting.tracker.passInProgress = true ∧ waiting.tracker.waiting ≠ none) ∧
    (passing.tracker.passInProgress = true ∧ passing.tracker.waiting = none) :=
  ⟨⟨⟨rfl, intact_ok _ _⟩, by decide, by decide +kernel⟩, ⟨rfl, by decide +kernel⟩, ⟨rfl, rfl⟩, ⟨rfl, by decide +kernel⟩,
    by decide +kernel, by decide +kernel⟩

/-- A frame at its card's expected tick, one at B with none expected, and a gap. -/
theorem witness_SampleFrameTaken :
    let s := { inPhase .armed with tracker :=
      { Tracker.initial with expected := #v[some 1040, none, none, none], last := some 1040 } }
    FramePasses kindSample (sampleFrame 0 1040 1 0) s ∧ s.controller.phase ≠ .idle ∧
    (∀ b, s.tracker.last = some b → b < 1040 + 1) ∧
    ((sampleOf (sampleFrame 0 1040 1 0).payload).map fun x => (x.card, x.start, x.sets.length)) = some (0, 1040, 1) ∧
    s.tracker.expected[0] = some 1040 ∧ (s.tracker.expected[1] = none ∧ ∀ b, s.tracker.last = some b → b ≤ 1040) ∧
    ((sampleOf (sampleFrame 0 1041 1 0).payload).map fun x => (x.card, x.start, x.sets.length)) = some (0, 1041, 1) := by
  refine ⟨⟨rfl, intact_ok _ _⟩, by decide, ?_, by decide +kernel, rfl, ⟨rfl, ?_⟩, by decide +kernel⟩ <;>
    intro b hb <;> cases hb <;> decide

/-- A unit with nothing left to take and a sample of each kind; one whose oldest sample waits; DARK, and REARM one tick below
the readiness tick and at it. -/
theorem witness_SampleFrameTaken_units :
    let waits := unit5 (.openHit hit42) [⟨1013, 10⟩]
    ((unit5 .ready []).units[5].lane = [] ∧ sampleEvent .ready ⟨1013, 400⟩ = .ordinary ∧
      sampleEvent (.openHit hit42) ⟨1013, 400⟩ = .ordinary) ∧
    ((unit5 (.openHit hit42) []).units[5].lane = [] ∧ sampleEvent (.openHit hit42) ⟨1013, 399⟩ = .normalEnd) ∧
    (waits.units[5].lane = [⟨1013, 10⟩] ∧ sampleEvent waits.units[5].ctx ⟨1013, 10⟩ ≠ .ordinary) ∧
    (unit5 .dark []).units[5].ctx = .dark ∧ sampleEvent (.rearm 1017) ⟨1016, 400⟩ = .ordinary ∧
    sampleEvent (.rearm 1017) ⟨1017, 0⟩ = .rearmEnd := by decide +kernel

theorem witness_SettleFrameTaken :
    let s := { inPhase .armed with tracker := { Tracker.initial with last := some 1040, settled := some 920 } }
    FramePasses kindSettle (settleFrame 1041) s ∧ (settleFrame 1041).payload.length = 6 ∧ s.controller.phase ≠ .idle ∧
    s.tracker.passInProgress = false ∧ ∀ b, s.tracker.last = some b → b < beNat (settleFrame 1041).payload := by
  refine ⟨⟨rfl, intact_ok _ _⟩, by decide, by decide, rfl, ?_⟩
  intro b hb
  cases hb
  decide +kernel

/-- A card one tick below B, one at B, and a part with none below. -/
theorem witness_LagCheckMarksLaggingCards :
    let s := { inPhase .armed with tracker := { Tracker.initial with expected := #v[some 1039, some 1040, none, none] } }
    (lagCheck 1040 s).faults.halted = false ∧ s.tracker.expected[0] = some 1039 ∧ s.tracker.expected[1] = some 1040 ∧
    ((inPhase .armed).tracker.expected[0] = none) := by decide +kernel

/-- A lagging card with an OPEN hit on lane 5 and a DARK context on lane 4. -/
theorem witness_LagCheckMarksLaggingCards_units :
    let s := { unit5 (.openHit hit42) [] with tracker := { Tracker.initial with expected := #v[some 1039, none, none, none] } }
    (lagCheck 1040 s).faults.halted = false ∧ s.tracker.expected[(0 : Card)] = some 1039 ∧
    s.units[laneChan 0 5].ctx = .openHit hit42 ∧ ∀ h, s.units[laneChan 0 4].ctx ≠ .openHit h :=
  ⟨by decide +kernel, rfl, by decide +kernel, fun h e => by
    have : (unit5 (.openHit hit42) []).units[laneChan 0 4].ctx = .dark := by decide +kernel
    rw [this] at e
    cases e⟩

/-- A magnitude one below the threshold of 400, one at it, and a limit of 1. -/
theorem witness_HitStart :
    let s := unit5 .ready []
    s.units[5].ctx = .ready ∧ (399 : Int).natAbs < s.active.channels[5].threshold ∧ s.active.channels[5].mode ≠ .off ∧
    s.active.channels[5].threshold ≤ (-400 : Int).natAbs ∧ 1 < s.active.channels[5].limit ∧
    ({ entry5 with limit := 1 } : ChannelEntry).limit ≤ 1 := by decide +kernel

theorem witness_OpenHitBookkeeping :
    let s := unit5 (.openHit { hit42 with quietRun := 2 }) []
    s.units[5].ctx = .openHit { hit42 with quietRun := 2 } ∧ 1013 + 1 < hit42.raw + hit42.snap.limit ∧
    (hit42.snap.threshold ≤ (400 : Int).natAbs ∧ 0 < hit42.snap.quiet) ∧
    ((399 : Int).natAbs < hit42.snap.threshold ∧ 2 + 1 < hit42.snap.quiet) := by decide +kernel

/-- A peak at level 3 exactly; a peak below every level; sums below 0, of 127, and above. -/
theorem witness_PeakDbRule :
    initialLevels[(3 : Fin 100)] ≤ 984 ∧
    (∀ i : Fin 100, 5 < (Vector.replicate 100 6 : Vector Nat 100)[i]) ∧
    ((rawStep initialLevels 700 : Int) + -20 < 0) ∧ ((rawStep initialLevels 32768 : Int) + 28 = 127) ∧
    (127 < (rawStep initialLevels 32768 : Int) + 29) := by decide +kernel

/-- A sample that completes the quiet run; one at raw arrival + L − 1; the first at the readiness tick, below and at the
threshold. -/
theorem witness_UnitEventSteps :
    let normal := unit5 (.openHit hit42) [⟨1013, 399⟩]
    let long := unit5 (.openHit { hit42 with quietRun := 0 }) [⟨2000, 399⟩]
    let ready := unit5 (.rearm 1017) [⟨1017, 400⟩]
    (normal.units[5].lane = [⟨1013, 399⟩] ∧ normal.units[5].ctx = .openHit hit42 ∧
      (399 : Int).natAbs < hit42.snap.threshold ∧ hit42.snap.threshold ≤ 32767 ∧ hit42.snap.quiet ≤ hit42.quietRun + 1) ∧
    (long.units[5].lane = [⟨2000, 399⟩] ∧ 0 + 1 < hit42.snap.quiet ∧ hit42.raw + hit42.snap.limit ≤ 2000 + 1) ∧
    (ready.units[5].lane = [⟨1017, 400⟩] ∧ ready.units[5].ctx = .rearm 1017 ∧ (399 : Int).natAbs < entry5.threshold ∧
      ready.active.channels[5].mode ≠ .off ∧ ready.active.channels[5].threshold ≤ (400 : Int).natAbs) := by
  decide +kernel

theorem witness_TruncationDirectives :
    (unit5 (.openHit hit42) []).units[5].ctx = .openHit hit42 ∧ (∀ h, (unit5 .ready []).units[5].ctx ≠ .openHit h) :=
  ⟨by decide +kernel, fun h e => by
    have : (unit5 .ready []).units[5].ctx = .ready := by decide +kernel
    rw [this] at e
    cases e⟩

/-- A tick one below S, and one at S with 64 entries and with 63; a notice of either kind for a listed
pair and for one that is not. -/
theorem witness_ArrivalsAndNotices :
    let s (n : Nat) := (passAt 920 .armed []).onAssembler fun a =>
      { a with arrivals := List.replicate n (newArrival 5 42 920 .listen) }
    (s 0).tracker.settled = some 920 ∧ 919 < 920 ∧
    (∀ b, (s 0).tracker.settled = some b → b ≤ (newArrival 5 43 920 .listen).tick) ∧
    64 ≤ (s 64).assembler.arrivals.length ∧ (s 63).assembler.arrivals.length < 64 ∧
    (∃ x ∈ (s 1).assembler.arrivals, x.chan = 5 ∧ x.serial = 42) ∧
    (∀ x ∈ (s 1).assembler.arrivals, ¬(x.chan = 5 ∧ x.serial = 41)) := by
  refine ⟨rfl, by decide, fun b h => ?_, by decide +kernel, by decide +kernel, by decide +kernel, by decide +kernel⟩
  cases h
  decide

/-- A candidate at the last tick of its window; none one tick later, with a free slot and with none. -/
theorem witness_ArrivalPlacement :
    let full : Vector (Option Event) 8 := Vector.replicate 8 (some anEvent)
    full[(0 : Fin 8)] = some anEvent ∧ anEvent.first ≤ 1078 ∧ 1078 ≤ anEvent.first + anEvent.window ∧
    (∀ m ∈ anEvent.members, m.chan ≠ 5) ∧ anEvent.members.length < 8 ∧ ¬1079 ≤ anEvent.first + anEvent.window ∧
    State.reset.assembler.slots[(0 : Fin 8)] = none ∧ (∀ j : Fin 8, ¬j < 0) ∧ (∀ i : Fin 8, full[i] ≠ none) := by
  decide +kernel

/-- Past the window with every member ended; past the span only; at the span's last tick. -/
theorem witness_EventClose :
    let unfinished : Event := { anEvent with members := [newArrival 12 3 878 .listen] }
    (anEvent.first + anEvent.window < 1079 ∧ ∀ m ∈ anEvent.members, m.ended = true) ∧
    (¬(unfinished.first + unfinished.window < 1379 ∧ ∀ m ∈ unfinished.members, m.ended = true) ∧
      unfinished.first + unfinished.window + unfinished.span < 1379) ∧
    (¬(unfinished.first + unfinished.window < 1378 ∧ ∀ m ∈ unfinished.members, m.ended = true) ∧
      1378 ≤ unfinished.first + unfinished.window + unfinished.span) := by decide +kernel

/-- Two entries, at 919 and 920, and a pass at S = 920; an event that is due at S = 1079. -/
theorem witness_PassLeavesNoSettledArrival :
    let s := (passAt 920 .armed []).onAssembler fun a =>
      { a with arrivals := [newArrival 5 42 919 .listen, newArrival 12 3 920 .listen] }
    exec .settlePass s = .next (runPass s) ∧ s.tracker.passInProgress = true ∧
    closeReasonAt anEvent 1079 = some .complete ∧ ArrivalsSound s := by
  refine ⟨rfl, rfl, by decide, ?_⟩
  show List.Pairwise arrivalLe [newArrival 5 42 919 .listen, newArrival 12 3 920 .listen]
  simp [arrivalLe, newArrival]

/-- The located event of section 5.5, and an event of one member. -/
theorem witness_LocatorPicksPair :
    let t : Tables :=
      { Tables.initial with
        channels := (tables12.channels.set 5 entry5)
        pairs := Tables.initial.pairs.set 3 { valid := true, a := 5, b := 12, spacing := 1500, velocity := 2950 } }
    t.channels[(12 : Chan)].mode = .listen ∧ t.channels[(5 : Chan)].mode = .listen ∧
    t.pairs[(3 : Fin 16)].valid = true ∧ (t.pairs[(3 : Fin 16)].a = 5 ∧ t.pairs[(3 : Fin 16)].b = 12) ∧
    (∀ j : Fin 16, j < 3 → t.pairs[j].valid = false) ∧
    ((locate t [newArrival 12 3 878 .listen, newArrival 5 42 998 .listen]).bind fun l => l.located.map fun p => p.position) =
      some 927 ∧
    (locate t [newArrival 12 3 878 .listen]) = some { zone := 12, located := none } := by decide +kernel

/-- The rows −508, −509, +508 and +509 of section 5.5: num of 2,998,600, 3,001,550, 1400 and −1550. -/
theorem witness_PositionArithmetic :
    let num (d : Int) : Int := 1500 * 1000 - 2950 * d
    num 509 < 0 ∧ (0 ≤ num 508 ∧ num 508 ≤ 2 * 1500 * 1000) ∧ (0 ≤ num (-508) ∧ num (-508) ≤ 2 * 1500 * 1000) ∧
    2 * 1500 * 1000 < num (-509) := by decide

/-- A GUARDED report; a NORMAL one in ARMED, in HOLD, and in RAMP one short of the onset count of 5. -/
theorem witness_CloseReportCounts :
    let r (cls : EventClass) : CloseReport := { number := 1, cls := cls, first := 878, clipped := 3 }
    let inHold := (inPhase .hold).onController fun c => { c with hold := some aHold }
    let inRamp := (inPhase .ramp).onController fun c => { c with ramp := some { aRamp with events := 3 } }
    rupturePhase (inPhase .armed).controller.phase = false ∧ (r .normal).clipped < State.reset.active.test.quorum ∧
    (r .guarded).cls = .guarded ∧ (r .normal).cls = .normal ∧
    (inHold.controller.phase = .hold ∧ inHold.controller.hold = some aHold) ∧
    (inRamp.controller.phase = .ramp ∧ inRamp.controller.ramp = some { aRamp with events := 3 } ∧
      3 + 1 < inRamp.active.test.onsetCount) := by decide +kernel

/-- The fifth NORMAL event of an undecided reload ramp, at the onset count of 5. -/
theorem witness_OnsetDecision :
    let s := (inPhase .ramp).onController fun c => { c with ramp := some aRamp }
    s.controller.phase = .ramp ∧ s.controller.ramp = some aRamp ∧ aRamp.reload = true ∧ aRamp.onset = .undecided ∧
    aRamp.pref = some 20000 ∧ 3 < s.active.test.quorum ∧ s.active.test.onsetCount ≤ aRamp.events + 1 := by decide +kernel

/-- A clipped count of 4, the quorum, in UNLOAD; an OPEN hit to stop. -/
theorem witness_RuptureEntersBurst :
    let s := inPhase .unload
    rupturePhase s.controller.phase = true ∧ s.active.test.quorum ≤ 4 ∧ s.faults.halted = false ∧
    0 < s.active.test.quorum ∧ s.controller.mutedFrom = none ∧ s.controller.hold = none ∧ s.controller.ramp = none ∧
    (unit5 (.openHit hit42) []).units[5].ctx = .openHit hit42 := by decide +kernel

theorem nothingDue_of {s : State} (h1 : s.assembler.inFlight = []) (h2 : s.assembler.arrivals = [])
    (h3 : s.assembler.slots = Vector.replicate 8 none) : nothingDue s := by
  refine ⟨h1, by simp [h2], fun i e he => ?_⟩
  rw [h3] at he
  simp at he

theorem passRuns_passAt (t : Tick) (p : Phase) (queue : List QueuedOrder) : PassRuns (passAt t p queue) :=
  ⟨rfl, nothingDue_of rfl rfl rfl, rfl, rfl⟩

theorem witness_PassWithNothingDue :
    let waiting := (passAt 9 .armed []).onTracker fun t => { t with waiting := some 10 }
    (PassRuns (passAt 9 .armed []) ∧ (passAt 9 .armed []).controller.queue = [] ∧
      (passAt 9 .armed []).controller.phase ≠ .hold) ∧
    (waiting.tracker.waiting = some 10 ∧ waiting.tracker.passInProgress = true ∧ nothingDue waiting ∧
      waiting.faults.halted = false ∧ waiting.controller.queue = []) :=
  ⟨⟨passRuns_passAt _ _ _, rfl, by decide⟩, rfl, rfl, nothingDue_of rfl rfl rfl, rfl, rfl⟩

/-- HOLD with a hold in progress, for the HOLD-QUIET clause. -/
theorem witness_PassWithNothingDue_hold :
    let s := (passAt 17500 .hold []).onController fun c => { c with hold := some aHold }
    s.tracker.passInProgress = true ∧ nothingDue s ∧ s.faults.halted = false ∧ s.controller.queue = [] ∧
    s.tracker.waiting = none ∧ s.controller.phase = .hold ∧ s.controller.hold = some aHold :=
  ⟨rfl, nothingDue_of rfl rfl rfl, rfl, rfl, rfl, rfl, rfl⟩

/-- An illegal head; an AWAIT with its mark set and with it clear; a SWAP. -/
theorem witness_HeadExamined :
    PassRuns (passAt 9 .burst [⟨.mute, 1⟩]) ∧ (passAt 9 .burst [⟨.mute, 1⟩]).controller.queue = ⟨.mute, 1⟩ :: [] ∧
    orderLegal .burst .mute = false ∧ orderLegal .armed (.await .zero) = true ∧
    markSet .zero { Controller.initial with mark0 := true } = true ∧ markSet .zero Controller.initial = false ∧
    orderLegal .ramp (.swap .all) = true := ⟨passRuns_passAt _ _ _, rfl, rfl, rfl, rfl, rfl, rfl⟩

/-- A SWAP that takes channel 5 to OFF and one that brings it from OFF, in ARMED; one that halts the part at a double fault;
one that refuses the test table. -/
theorem witness_HeadExamined_swap :
    let off := unit5 (.openHit hit42) []
    let on := { inPhase .armed with staged := tables5 }
    let falling := { Tables.initial with levels := initialLevels.set 0 1000 }
    let equal := { Tables.initial with test := { TestTable.initial with high := 100, low := 100 } }
    ((swapTable .channel off).faults.halted = false ∧ modeListens off.active.channels[(5 : Chan)].mode = true ∧
      modeListens (swapTable .channel off).active.channels[(5 : Chan)].mode = false) ∧
    ((swapTable .channel on).faults.halted = false ∧ modeListens on.active.channels[(5 : Chan)].mode = false ∧
      modeListens (swapTable .channel on).active.channels[(5 : Chan)].mode = true ∧
      listeningPhase on.controller.phase = true ∧ on.units[(5 : Chan)].ctx = .dark) ∧
    (swapTable .decibel (withSlot aDouble { inPhase .armed with staged := falling })).faults.halted = true ∧
    ((swapTable .test { inPhase .armed with staged := equal }).faults.halted = false ∧ equal.test.high ≤ equal.test.low) ∧
    ¬falling.levels[(0 : Fin 100)] ≤ falling.levels[(1 : Fin 100)] := by decide +kernel

theorem witness_LoadOrdersTaken :
    (PassRuns (passAt 9 .armed [⟨.ramp, 1⟩]) ∧ (passAt 9 .armed [⟨.ramp, 1⟩]).controller.queue = ⟨.ramp, 1⟩ :: []) ∧
    (PassRuns (passAt 9 .ramp [⟨.hold, 1⟩]) ∧ (passAt 9 .ramp [⟨.hold, 1⟩]).controller.phase = .ramp) ∧
    (PassRuns (passAt 9 .hold [⟨.unload, 1⟩]) ∧ (passAt 9 .hold [⟨.unload, 1⟩]).controller.phase = .hold) :=
  ⟨⟨passRuns_passAt _ _ _, rfl⟩, ⟨passRuns_passAt _ _ _, rfl⟩, passRuns_passAt _ _ _, rfl⟩

theorem noOpenHit_passAt (t : Tick) (p : Phase) (queue : List QueuedOrder) : noOpenHit (passAt t p queue) := by
  intro c h e
  have : (passAt t p queue).units[c].ctx = .dark := by simp [passAt, State.reset, ChannelUnit.initial]
  rw [this] at e
  cases e

theorem witness_MuteAndUnmuteTaken :
    let muted := (passAt 9 .muted [⟨.unmute, 1⟩]).onController fun c => { c with mutedFrom := some .hold }
    (PassRuns (passAt 9 .ramp [⟨.mute, 1⟩]) ∧ (passAt 9 .ramp [⟨.mute, 1⟩]).controller.queue = ⟨.mute, 1⟩ :: [] ∧
      listeningPhase .ramp = true ∧ noOpenHit (passAt 9 .ramp [⟨.mute, 1⟩])) ∧
    (PassRuns muted ∧ muted.controller.queue = ⟨.unmute, 1⟩ :: [] ∧ muted.controller.phase = .muted ∧
      muted.controller.mutedFrom = some .hold) :=
  ⟨⟨passRuns_passAt _ _ _, rfl, rfl, noOpenHit_passAt _ _ _⟩, ⟨rfl, nothingDue_of rfl rfl rfl, rfl, rfl⟩, rfl, rfl, rfl⟩

theorem witness_FinishTaken :
    let s := passAt 9 .burst [⟨.finish, 1⟩, ⟨.mute, 2⟩]
    PassRuns s ∧ s.controller.queue = ⟨.finish, 1⟩ :: [⟨.mute, 2⟩] ∧ s.controller.phase ≠ .idle ∧ noOpenHit s ∧
    assemblerEmpty s :=
  ⟨passRuns_passAt _ _ _, rfl, by decide, noOpenHit_passAt _ _ _, rfl, by decide +kernel, rfl⟩

/-- FINISH with an OPEN hit, a listed arrival and an open event, none of them due. -/
theorem witness_FinishTaken_flush :
    let s := { passAt 9 .armed [⟨.finish, 1⟩] with
      units := (unit5 (.openHit hit42) []).units
      assembler := { Assembler.initial with arrivals := [newArrival 5 42 998 .listen]
                                            slots := (Vector.replicate 8 none).set 0 (some anEvent) } }
    PassRuns s ∧ s.controller.queue = ⟨.finish, 1⟩ :: [] ∧ s.controller.phase ≠ .idle := by
  refine ⟨⟨rfl, ⟨rfl, ?_, fun i e h => ?_⟩, rfl, rfl⟩, rfl, by decide⟩
  · intro x hx
    cases List.mem_singleton.1 hx
    decide
  · simp only [Fin.getElem_fin, Vector.getElem_set] at h
    split at h
    · cases h; decide
    · simp at h

/-- Three orders queued and four; an order byte outside its codes; ARM; MUTE in IDLE. -/
theorem witness_OrdersOnArrival :
    let queued (n : Nat) := (inPhase .ramp).onController fun c => { c with queue := List.replicate n ⟨.mute, 9⟩ }
    (Accepted .order (orderFrame 1 3 0) (queued 3) ∧ (queued 3).controller.phase ≠ .idle ∧ orderOf 3 0 = some .hold ∧
      (queued 3).controller.queue.length < 4) ∧
    (Accepted .order (orderFrame 1 3 0) (queued 4) ∧ 4 ≤ (queued 4).controller.queue.length) ∧
    (Accepted .order (orderFrame 1 10 0) State.reset ∧ orderOf 10 0 = none ∧ orderOf 7 5 = none ∧ orderOf 8 2 = none) ∧
    (Accepted .order (orderFrame 1 1 0) (inPhase .ramp) ∧ orderOf 1 0 = some .arm) ∧
    (State.reset.controller.phase = .idle ∧ orderOf 5 0 = some .mute) :=
  ⟨⟨accepted_of rfl (intact_ok _ _) rfl (by decide) rfl, by decide, rfl, by decide⟩,
    ⟨accepted_of rfl (intact_ok _ _) rfl (by decide) rfl, by decide⟩,
    ⟨accepted_reset (k := .order) rfl, rfl, rfl, rfl⟩, ⟨accepted_inPhase (k := .order) rfl, rfl⟩, rfl, rfl⟩

theorem witness_ArmBeginsTest :
    Accepted .order (orderFrame 1 1 0) State.reset ∧ State.reset.controller.phase = .idle ∧
    orderOf (fieldAt (orderFrame 1 1 0).payload 1 1) (fieldAt (orderFrame 1 1 0).payload 2 1) = some .arm :=
  ⟨accepted_reset (k := .order) rfl, rfl, by decide⟩

/-- ALL with nothing refused; a falling decibel table; equal marks; a skipped mode. -/
theorem witness_SwapInIdle :
    Accepted .order (orderFrame 1 7 4) State.reset ∧ State.reset.controller.phase = .idle ∧
    orderOf 7 4 = some (.swap .all) ∧
    (∀ c : Chan, State.reset.units[c] = { serial := State.reset.units[c].serial, ctx := .dark, lane := [] }) ∧
    (∀ c : Chan, modeSkips State.reset.staged.channels[c] State.reset.active.channels[c] = false) ∧
    nonDecreasing State.reset.staged.levels.toList = true ∧ State.reset.staged.test.low < State.reset.staged.test.high ∧
    State.reset.outlet.faultSlot = none ∧ nonDecreasing (initialLevels.set 0 1000).toList = false ∧
    firstSkipped (tables5.channels.set 5 { entry5 with mode := .guard }) tables5.channels = some 5 :=
  ⟨accepted_reset (k := .order) rfl, rfl, rfl, by decide +kernel, by decide +kernel, by decide +kernel, by decide, rfl,
    by decide +kernel, by decide +kernel⟩

theorem witness_ProcessFrameTaken :
    FramePasses kindProcess (processFrame true 20050) State.reset ∧ (processFrame true 20050).payload.length = 10 ∧
    (byteAt (processFrame true 20050).payload 6).getLsbD 0 = true ∧
    (byteAt (processFrame false 20050).payload 6).getLsbD 0 = false :=
  ⟨⟨rfl, intact_ok _ _⟩, by decide, by decide, by decide⟩

theorem witness_IdentifyAndSetMark :
    Accepted .identify (mgmtFrame kindIdentify 41 []) State.reset ∧
    Accepted .setMark (mgmtFrame kindSetMark 42 [1]) State.reset ∧
    fieldAt (mgmtFrame kindSetMark 42 [0]).payload 1 1 = 0 ∧ fieldAt (mgmtFrame kindSetMark 42 [1]).payload 1 1 = 1 ∧
    2 ≤ fieldAt (mgmtFrame kindSetMark 42 [2]).payload 1 1 :=
  ⟨accepted_reset (k := .identify) rfl, accepted_reset (k := .setMark) rfl, by decide, by decide, by decide⟩

theorem witness_ReadStateReportsAndMarksSeen : Accepted .readState (mgmtFrame kindReadState 41 []) State.reset :=
  accepted_reset (k := .readState) rfl

theorem witness_DropOrdersEmptiesQueue :
    let s := passAt 9 .hold [⟨.await .one, 7⟩]
    (Accepted .dropOrders (mgmtFrame kindDropOrders 44 []) s ∧ linkFree s = false) ∧
    (Accepted .dropOrders (mgmtFrame kindDropOrders 44 []) (s.withReady true) ∧ linkFree (s.withReady true) = true) :=
  ⟨⟨accepted_of rfl (intact_ok _ _) rfl (by decide) rfl, rfl⟩, accepted_of rfl (intact_ok _ _) rfl (by decide) rfl, rfl⟩

theorem witness_ClearConditionsClearsSeen :
    Accepted .clearConditions (mgmtFrame kindClearConditions 1 [1, 255]) State.reset ∧
    fieldAt (mgmtFrame kindClearConditions 1 [1, 255]).payload 1 2 < 512 ∧
    512 ≤ fieldAt (mgmtFrame kindClearConditions 1 [2, 0]).payload 1 2 :=
  ⟨accepted_reset (k := .clearConditions) rfl, by decide, by decide⟩

/-- Level 99 written; a first index of 100; a table name of 4. An entry of each other table. -/
theorem witness_WriteTableWritesStagedCopy :
    Accepted .writeTable (mgmtFrame kindWriteTable 1 [2, 99, 1, 0x80, 0x00]) State.reset ∧
    tableOf 2 = some .decibel ∧ extentOk .decibel 99 1 = true ∧
    entriesOf .decibel 1 [0x80, 0x00] = some (.decibel [32768]) ∧ extentOk .decibel 100 1 = false ∧
    entriesOf .decibel 1 [0x80, 0x01] = none ∧ tableOf 4 = none ∧
    entriesOf .channel 1 (channelEntryBytes entry5) = some (.channel [entry5]) ∧
    entriesOf .pair 1 (pairEntryBytes .initial) = some (.pair [.initial]) ∧
    entriesOf .test 1 (testTableBytes .initial) = some (.test .initial) :=
  ⟨accepted_reset (k := .writeTable) (by decide), rfl, rfl, by decide, rfl, by decide, rfl, by decide +kernel,
    by decide +kernel, by decide +kernel⟩

theorem witness_ReadTableReadsEitherCopy :
    Accepted .readTable (mgmtFrame kindReadTable 1 [0, 1, 28, 4]) State.reset ∧ tableOf 0 = some .channel ∧
    copyOf 1 = some .active ∧ extentOk .channel 28 4 = true ∧ copyOf 2 = none ∧ extentOk .channel 29 4 = false :=
  ⟨accepted_reset (k := .readTable) rfl, rfl, rfl, rfl, rfl, rfl⟩

/-- Reservations and answers number 8 exactly. -/
theorem witness_FullAnswerQueueDiscards :
    let s := State.reset.onOutlet fun o =>
      { o with reservations := 4, answers := List.replicate 4 (orderAnswer 1 .done) }
    s.faults.halted = false ∧ checkOk (mgmtKindCode .identify) (mgmtFrame kindIdentify 1 []) = true ∧
    mgmtLengthOk .identify (mgmtFrame kindIdentify 1 []).payload = true ∧
    8 ≤ s.outlet.reservations + s.outlet.answers.length := by decide +kernel

theorem witness_LinkReadsBackEveryFrame :
    commandFrame (.finish (orderFrame 1 9 0)) = some (kindOrder, orderFrame 1 9 0) ∧
    wellFormed (.finish (orderFrame 1 9 0)) = true ∧ orderByte (orderFrame 1 9 0) = some 9 := by decide +kernel

/-- The entries of the tests in the bytes of R172, written out field by field: channel 5 with gain −20, a valid pair of
channels 5 and 12, and the test table after reset (R130). -/
theorem test_table_entry_layouts :
    channelEntryOf [1, 0x01, 0x90, 0xEC, 0, 3, 0, 4, 0, 6, 0, 3, 0, 0x03, 0xE8, 2, 0] = some { entry5 with gain := -20 } ∧
    pairEntryOf [1, 5, 12, 0x03, 0xE8, 0x13, 0x88] =
      some { valid := true, a := 5, b := 12, spacing := 1000, velocity := 5000 } ∧
    testTableOf [0x03, 0xE8, 0, 0x0F, 0xA0, 4, 0x01, 0x80, 0, 0x80, 0, 0, 10, 5, 0x01, 0xFF, 0, 0, 0, 0, 0, 0, 0, 0] =
      some .initial := by decide +kernel

/-- Entries at the ends of their ranges. -/
theorem witness_TableEntriesReadBack :
    channelEntryOk { entry5 with gain := -20, delay := 4095, limit := 1048575, shift := 15 } ∧
    pairEntryOk { valid := true, a := 5, b := 12, spacing := 65535, velocity := 1 } ∧ 32768 ≤ 32768 ∧
    testTableOk { TestTable.initial with window := 65535, quorum := 8, high := 496, low := 495 } := by
  simp [channelEntryOk, pairEntryOk, testTableOk, entry5, ChannelEntry.initial, TestTable.initial]

theorem witness_OutletRelationsKept :
    let s := (withRecords 496 State.reset).withPending [.powerOnReset]
    (∃ t, step s = .next t) ∧ CondsSound s ∧ CutSound s ∧ PlacesSound s := by
  refine ⟨⟨_, rfl⟩, fun c h => ?_, fun _ => rfl, ?_, ?_, ?_, ?_⟩
  · cases c <;> cases h
  all_goals decide +kernel

theorem witness_AnswersKept :
    let s := (passAt 9 .hold [⟨.await .one, 7⟩]).withPending [.settlePass]
    (∃ t, step s = .next t) ∧ AnswersSound s := ⟨⟨_, rfl⟩, by decide, by decide, rfl, rfl, rfl⟩

theorem witness_ControlRelationsKept :
    let s := (passAt 9 .armed [⟨.ramp, 1⟩]).withPending [.settlePass]
    (∃ t, step s = .next t) ∧ TrackerSound s ∧ PhaseSound s ∧ ListeningSound s := by
  refine ⟨⟨_, rfl⟩, ⟨fun t h => ⟨9, rfl, ?_⟩, fun k e b h => ?_, fun k h => ?_, fun _ => rfl⟩, ?_, fun c => ⟨fun h => ?_, fun _ => ?_⟩⟩
  · cases h; exact Nat.le_refl _
  · simp [passAt, Tracker.initial] at h
  · simp [passAt, Tracker.initial] at h
  · simp [PhaseSound, passAt, State.reset, Controller.initial, FaultUnit.initial]
  · exact absurd (by simp [passAt, State.reset, ChannelUnit.initial]) h
  · simp [passAt, State.reset, ChannelUnit.initial]

theorem witness_AssemblyRelationsKept :
    let s := ((passAt 9 .armed []).onAssembler fun a => { a with slots := a.slots.set 0 (some anEvent) }).withPending
      [.settlePass]
    (∃ t, step s = .next t) ∧ ArrivalsSound s ∧ EventsSound s := by
  refine ⟨⟨_, rfl⟩, List.Pairwise.nil, fun i e h => ?_⟩
  have h' : e = anEvent := by
    simp only [State.withPending_assembler, State.onAssembler_assembler, Fin.getElem_fin, Vector.getElem_set] at h
    split at h
    · exact (Option.some.inj h).symm
    · simp [passAt, State.reset, Assembler.initial] at h
  subst h'
  simp [eventSound, anEvent, newArrival]

theorem tablesInRange_initial : TablesInRange .initial := by
  refine ⟨fun c => ?_, fun i => ?_, fun i => ?_, ?_⟩
  · simp [Tables.initial, channelEntryOk, ChannelEntry.initial]
  · simp [Tables.initial, pairEntryOk, PairEntry.initial]
  · simp only [Tables.initial, initialLevels, Fin.getElem_fin, Vector.getElem_mk, List.getElem_toArray, List.getElem_map,
      List.getElem_range]
    omega
  · simp [Tables.initial, testTableOk, TestTable.initial]

theorem witness_RangesKept :
    let s := ((unit5 (.openHit hit42) [⟨1013, 10⟩]).onTracker fun t =>
      { t with expected := #v[some 1014, none, none, none] }).withPending [.normalEnd 5]
    (∃ t, step s = .next t) ∧ CopiesInRange s ∧ TablesSound s ∧ LanesSound s ∧ HitsSound s := by
  obtain ⟨h1, h2, h3, h4⟩ := tablesInRange_initial
  refine ⟨⟨_, rfl⟩, ⟨⟨h1, h2, h3, h4⟩, fun c => ?_, h2, h3, h4⟩, ⟨by decide +kernel, by decide⟩, fun k l => ?_,
    fun c h e => ?_⟩
  · simp only [State.withPending_active, State.onTracker_active, unit5, tables5, Fin.getElem_fin, Vector.getElem_set]
    split
    · simp [channelEntryOk, entry5, ChannelEntry.initial]
    · exact h1 c
  · by_cases hc : laneChan k l = 5
    · obtain ⟨rfl, rfl⟩ : k = 0 ∧ l = 5 := by revert k l; decide
      simp [unitAhead, unit5, laneChan, hit42]
    · have hc' : ¬ 5 = (laneChan k l).val := fun h => hc (Fin.ext h.symm)
      simp [unitAhead, unit5, hc', ChannelUnit.initial]
  · simp only [State.withPending_units, State.onTracker_units, unit5, Fin.getElem_fin, Vector.getElem_set] at e
    split at e
    · cases e
      simp [hitSound, snapSound, hit42, snapshotOf, entry5, ChannelEntry.initial, modeListens]
    · simp [ChannelUnit.initial] at e

end Sys2Proof.Tests
end

/-! # Sample time and the lane cards -/

namespace Sys2Proof.Machine

/-! ## A frame that passes the inlet's checks -/

section
variable {f : Frame} {s : State}

/-- Neither FRAME-CHECK nor FRAME-FORM is left once the frame passes and its payload parses (R2, R110, R153). -/
theorem receive_of_framePasses {α : Type} {kind : Byte} {parse : List Byte → Option α} {handOn : α → State → State} {a : α}
    (h : FramePasses kind f s) (hparse : parse f.payload = some a) : receive kind f parse handOn s = handOn a s := by
  simp [receive, h.running, h.check, hparse]

theorem settleOf_of_length {p : List Byte} (h : p.length = 6) : settleOf p = some (beNat p) := if_pos h

/-- The offer to pass-through comes before the tracker's decision (R2, R3). -/
theorem exec_sample_of_framePasses {x : SampleFrame} (h : FramePasses kindSample f s) (hx : sampleOf f.payload = some x) :
    exec (.sample f) s = .next (trackSample x (offerSample f x.card s)) :=
  congrArg Host.Outcome.next (receive_of_framePasses h hx)

theorem exec_settle_of_framePasses (h : FramePasses kindSettle f s) (hlen : f.payload.length = 6) :
    exec (.settle f) s = .next (trackSettle (beNat f.payload) (offerPass { kind := kindSettle, frame := f } s)) :=
  congrArg Host.Outcome.next (receive_of_framePasses h (settleOf_of_length hlen))

end

/-! ## The tracker in IDLE (R5) -/

@[simp] theorem offerSample_phase (f : Frame) (k : Card) (s : State) :
    (offerSample f k s).controller.phase = s.controller.phase := by
  unfold offerSample
  split
  · exact offerPass_phase _ s
  · rfl

theorem trackSample_idle {s : State} (x : SampleFrame) (h : s.controller.phase = .idle) : trackSample x s = s := if_pos h

theorem trackSettle_idle {s : State} (b : Tick) (h : s.controller.phase = .idle) : trackSettle b s = settleTaken s :=
  if_pos h

/-! ## The report of a taken SETTLE frame (R150) -/

section
variable {s : State}

theorem settleTaken_of_not_dense (h : s.outlet.dense = false) : settleTaken s = s := by
  simp [settleTaken, State.onOutlet, h]

theorem settleTaken_of_fill_le_low (h : s.outlet.dense = true) (hfill : s.outlet.records.length ≤ s.active.test.low) :
    settleTaken s = { s with outlet := { s.outlet with dense := false, cut := .none } } := by
  simp [settleTaken, State.onOutlet, h, hfill]

theorem settleTaken_of_low_lt_fill (h : s.outlet.dense = true) (hfill : s.active.test.low < s.outlet.records.length) :
    settleTaken s = { s with outlet := { s.outlet with cut :=
      if s.outlet.cut = .pending then .cut else s.outlet.cut } } := by
  simp only [settleTaken, State.onOutlet, if_pos h, if_neg (Nat.not_le.mpr hfill), beq_iff_eq]
  by_cases hcut : s.outlet.cut = .pending
  · simp only [if_pos hcut]
  · simp only [if_neg hcut]

end

/-- Settles O17: the offer to pass-through leaves the phase, so the tracker still finds IDLE behind it. -/
theorem framesInIdle : Obligations.FramesInIdle := by
  refine ⟨fun f x s hpass hx hidle => ?_, fun f s hpass hlen hidle => ?_, fun _ => settleTaken_of_not_dense,
    fun _ => settleTaken_of_fill_le_low, fun _ => settleTaken_of_low_lt_fill⟩
  · have hoffered : (offerSample f x.card s).controller.phase = .idle := (offerSample_phase f x.card s).trans hidle
    rw [exec_sample_of_framePasses hpass hx, trackSample_idle x hoffered]
  · have hoffered : (offerPass { kind := kindSettle, frame := f } s).controller.phase = .idle :=
      (offerPass_phase _ s).trans hidle
    rw [exec_settle_of_framePasses hpass hlen, trackSettle_idle _ hoffered]

end Sys2Proof.Machine

/-! # Hit features and the decibel scale -/

namespace Sys2Proof.Machine

/-! ## The walk through the decibel levels (R44) -/

theorem lastStep_of_forall_lt {peak : Nat} {ls : List Nat} (i best : Nat) (h : ∀ l ∈ ls, peak < l) :
    lastStep peak ls i best = best := by
  induction ls generalizing i with
  | nil => rfl
  | cons l ls ih =>
    obtain ⟨hl, hls⟩ := List.forall_mem_cons.mp h
    rw [lastStep, if_neg (Nat.not_le.mpr hl), ih (i + 1) hls]

/-- The walk overwrites its best index at every qualifying level, so the last one stands; the table need not be ordered. -/
theorem lastStep_isLast {peak : Nat} {ls : List Nat} (i best : Nat) (h : ∃ l ∈ ls, l ≤ peak) :
    ∃ (j : Nat) (hj : j < ls.length), lastStep peak ls i best = i + j ∧ ls[j] ≤ peak ∧
      ∀ (k : Nat) (hk : k < ls.length), ls[k] ≤ peak → k ≤ j := by
  induction ls generalizing i best with
  | nil => simp at h
  | cons l ls ih =>
    by_cases htail : ∃ l' ∈ ls, l' ≤ peak
    · obtain ⟨j, hj, heq, hle, hlast⟩ := ih (i + 1) (if l ≤ peak then i else best) htail
      refine ⟨j + 1, Nat.succ_lt_succ hj, by rw [lastStep, heq]; omega, hle, fun k hk hlevel => ?_⟩
      cases k with
      | zero => exact Nat.zero_le _
      | succ k => exact Nat.succ_le_succ (hlast k (Nat.lt_of_succ_lt_succ hk) hlevel)
    · have habove : ∀ l' ∈ ls, peak < l' := by simpa using htail
      have hl : l ≤ peak := by simpa [htail] using h
      refine ⟨0, Nat.zero_lt_succ _, by rw [lastStep, if_pos hl, lastStep_of_forall_lt _ _ habove, Nat.add_zero], hl,
        fun k hk hlevel => ?_⟩
      cases k with
      | zero => exact Nat.le_refl _
      | succ k => exact absurd hlevel (Nat.not_le.mpr (habove _ (List.getElem_mem _)))

theorem rawStep_isLast {levels : Vector Nat 100} {peak : Nat} (h : ∃ i : Fin 100, levels[i] ≤ peak) :
    ∃ j : Fin 100, j.val = rawStep levels peak ∧ levels[j] ≤ peak ∧ ∀ i : Fin 100, levels[i] ≤ peak → i ≤ j := by
  obtain ⟨i, hi⟩ := h
  obtain ⟨j, hj, heq, hle, hlast⟩ := lastStep_isLast (ls := levels.toList) 0 0 ⟨levels[i], by simp, hi⟩
  have hj100 : j < 100 := by simpa using hj
  exact ⟨⟨j, hj100⟩, by rw [rawStep, heq, Nat.zero_add], by simpa using hle,
    fun k hk => hlast k (by simp) (by simpa using hk)⟩

theorem rawStep_of_forall_lt {levels : Vector Nat 100} {peak : Nat} (h : ∀ i : Fin 100, peak < levels[i]) :
    rawStep levels peak = 0 := by
  refine lastStep_of_forall_lt 0 0 fun l hl => ?_
  obtain ⟨i, hi, rfl⟩ := Vector.mem_iff_getElem.mp (Vector.mem_toList_iff.mp hl)
  exact h ⟨i, hi⟩

/-! ## The clamp (R45) -/

theorem clampDb_eq_clamp (step : Nat) (gain : Int) : (clampDb step gain : Int) = min (max (step + gain) 0) 127 := by
  rw [clampDb]
  omega

/-- Settles O25: the walk keeps the last level that qualifies, and the clamp has one case on each side of 0..127. -/
theorem peakDbRule : Obligations.PeakDbRule := by
  refine ⟨fun levels peak i hi => ?_, fun _ _ => rawStep_of_forall_lt, fun c h s => ?_⟩
  · obtain ⟨j, hj, hle, hlast⟩ := rawStep_isLast ⟨i, hi⟩
    exact ⟨hj ▸ hlast i hi, j, hj, hle⟩
  · have hclamp : (peakDbOf c h s : Int) = _ := clampDb_eq_clamp (rawStep s.active.levels h.peak) s.active.channels[c].gain
    refine ⟨fun hneg => ?_, fun hlow hhigh => ?_, fun hover => ?_⟩
    · omega
    · omega
    · omega

end Sys2Proof.Machine

/-! # The locator -/

namespace Sys2Proof.Machine

/-! ## Pair selection (R80 to R82) -/

/-- Entry `i` locates on the channels `c` and `d`: both are LISTEN in the active table, and the entry is valid and names the
two in either order (R80, R81). -/
def EntryPairs (t : Tables) (c d : Chan) (i : Fin 16) : Prop :=
  t.channels[c].mode = .listen ∧ t.channels[d].mode = .listen ∧ t.pairs[i].valid = true ∧
  ((t.pairs[i].a = c ∧ t.pairs[i].b = d) ∨ (t.pairs[i].a = d ∧ t.pairs[i].b = c))

theorem pairMatches_iff {c d : Chan} {e : PairEntry} :
    pairMatches c d e = true ↔ e.valid = true ∧ ((e.a = c ∧ e.b = d) ∨ (e.a = d ∧ e.b = c)) := by
  simp [pairMatches]

theorem findPair_eq_none_iff {pairs : Vector PairEntry 16} {c d : Chan} :
    findPair pairs c d = none ↔ ∀ i : Fin 16, ¬pairMatches c d pairs[i] = true := by
  simp [findPair, ← Fin.find?_eq_find?_finRange]

theorem findPair_eq_some_iff {pairs : Vector PairEntry 16} {c d : Chan} {i : Fin 16} :
    findPair pairs c d = some i ↔
      pairMatches c d pairs[i] = true ∧ ∀ j : Fin 16, j < i → ¬pairMatches c d pairs[j] = true := by
  simp only [findPair, ← Fin.find?_eq_find?_finRange, Fin.find?_eq_some_iff, Bool.not_eq_true]

section
variable {t : Tables} {c : Chan} {m : Arrival}

theorem entryPairs_iff_of_listen {d : Chan} {i : Fin 16} (hc : t.channels[c].mode = .listen)
    (hd : t.channels[d].mode = .listen) : EntryPairs t c d i ↔ pairMatches c d t.pairs[i] = true := by
  simp only [EntryPairs, pairMatches_iff, hc, hd, true_and]

/-- Between two LISTEN channels the first matching entry decides, and without one the search goes on (R81, R82). -/
theorem findPartner_cons_of_listen (ms : List Arrival) (hc : t.channels[c].mode = .listen)
    (hm : t.channels[m.chan].mode = .listen) :
    findPartner t c (m :: ms) = ((findPair t.pairs c m.chan).map fun i => (m, i)).or (findPartner t c ms) := by
  rw [findPartner, hc, hm, if_pos (by decide)]
  cases findPair t.pairs c m.chan <;> rfl

theorem findPartner_cons_of_not_listen (ms : List Arrival)
    (h : ¬(t.channels[c].mode = .listen ∧ t.channels[m.chan].mode = .listen)) :
    findPartner t c (m :: ms) = findPartner t c ms := by
  rw [findPartner, if_neg (by simpa only [Bool.and_eq_true, beq_iff_eq] using h)]

theorem findPartner_cons_of_pairs {i : Fin 16} (ms : List Arrival) (h : EntryPairs t c m.chan i)
    (hlowest : ∀ j : Fin 16, j < i → ¬EntryPairs t c m.chan j) : findPartner t c (m :: ms) = some (m, i) := by
  obtain ⟨hc, hm, -⟩ := id h
  simp only [entryPairs_iff_of_listen hc hm] at h hlowest
  have hentry : findPair t.pairs c m.chan = some i := findPair_eq_some_iff.mpr ⟨h, hlowest⟩
  rw [findPartner_cons_of_listen ms hc hm, hentry, Option.map_some, Option.some_or]

/-- A member that no entry pairs is passed over, whether a channel of the two is not LISTEN or no entry matches. -/
theorem findPartner_cons_of_forall_not_pairs (ms : List Arrival) (h : ∀ i, ¬EntryPairs t c m.chan i) :
    findPartner t c (m :: ms) = findPartner t c ms := by
  by_cases hlisten : t.channels[c].mode = .listen ∧ t.channels[m.chan].mode = .listen
  · obtain ⟨hc, hm⟩ := hlisten
    simp only [entryPairs_iff_of_listen hc hm] at h
    have hentry : findPair t.pairs c m.chan = none := findPair_eq_none_iff.mpr h
    rw [findPartner_cons_of_listen ms hc hm, hentry, Option.map_none, Option.none_or]
  · exact findPartner_cons_of_not_listen ms hlisten

theorem findPartner_append_of_forall_not_pairs {front : List Arrival} (ms : List Arrival)
    (h : ∀ m ∈ front, ∀ i, ¬EntryPairs t c m.chan i) : findPartner t c (front ++ ms) = findPartner t c ms := by
  induction front with
  | nil => rfl
  | cons m front ih =>
    obtain ⟨hm, hfront⟩ := List.forall_mem_cons.mp h
    rw [List.cons_append, findPartner_cons_of_forall_not_pairs _ hm, ih hfront]

theorem findPartner_eq_none {ms : List Arrival} (h : ∀ m ∈ ms, ∀ i, ¬EntryPairs t c m.chan i) :
    findPartner t c ms = none := by
  simpa [findPartner] using findPartner_append_of_forall_not_pairs [] h

theorem findPartner_eq_some {front back : List Arrival} {i : Fin 16} (hfront : ∀ m' ∈ front, ∀ j, ¬EntryPairs t c m'.chan j)
    (h : EntryPairs t c m.chan i) (hlowest : ∀ j : Fin 16, j < i → ¬EntryPairs t c m.chan j) :
    findPartner t c (front ++ m :: back) = some (m, i) := by
  rw [findPartner_append_of_forall_not_pairs _ hfront, findPartner_cons_of_pairs back h hlowest]

end

/-- Settles O32: the search passes over every member that no entry pairs and stops at the first that one does. -/
theorem locatorPicksPair : Obligations.LocatorPicksPair := by
  refine fun t first later => ⟨fun hnone => ?_, fun front back m i hlater hfront hpairs hlowest => ?_⟩
  · have hsearch : findPartner t first.chan later = none := findPartner_eq_none hnone
    rw [locate, hsearch, Option.map_none]
  · have hsearch : findPartner t first.chan later = some (m, i) := hlater ▸ findPartner_eq_some hfront hpairs hlowest
    rw [locate, hsearch, Option.map_some]

/-! ## The position (R84 to R87) -/

section
variable {e : PairEntry} {num : Int}

theorem positionOf_of_neg (h : num < 0) : positionOf e num = (0, true) := if_pos h

theorem positionOf_of_beyond (h : 2 * (e.spacing : Int) * 1000 < num) : positionOf e num = (e.spacing, true) := by
  rw [positionOf, if_neg (by omega), if_pos h]

theorem positionOf_of_within (h0 : 0 ≤ num) (hD : num ≤ 2 * (e.spacing : Int) * 1000) :
    positionOf e num = ((num / 2000).toNat, false) := by
  rw [positionOf, if_neg (Int.not_lt.mpr h0), if_neg (Int.not_lt.mpr hD)]

theorem positionOf_isFloor (h0 : 0 ≤ num) (hD : num ≤ 2 * (e.spacing : Int) * 1000) :
    2000 * ((positionOf e num).1 : Int) ≤ num ∧ num < 2000 * ((positionOf e num).1 + 1) ∧ (positionOf e num).2 = false := by
  rw [positionOf_of_within h0 hD]
  exact ⟨by omega, by omega, rfl⟩

theorem positionOf_fst_le (e : PairEntry) (num : Int) : (positionOf e num).1 ≤ e.spacing := by
  rcases Int.lt_or_le num 0 with hneg | h0
  · rw [positionOf_of_neg hneg]
    exact Nat.zero_le _
  · rcases Int.lt_or_le (2 * (e.spacing : Int) * 1000) num with hbeyond | hD
    · rw [positionOf_of_beyond hbeyond]
    · rw [positionOf_of_within h0 hD]
      omega

end

/-- Settles O33: the located result is `positionOf` at num, which has one case below, one above and one within the pair. -/
theorem positionArithmetic : Obligations.PositionArithmetic := by
  intro t first partner i e ta tb num l
  have hposition : l.position = (positionOf e num).1 := rfl
  have houtside : l.outside = (positionOf e num).2 := rfl
  rw [hposition, houtside]
  refine ⟨rfl, rfl, rfl, rfl, positionOf_fst_le e num, fun hneg => ?_, positionOf_isFloor, fun hbeyond => ?_⟩
  · rw [positionOf_of_neg hneg]
    exact ⟨rfl, rfl⟩
  · rw [positionOf_of_beyond hbeyond]
    exact ⟨rfl, rfl⟩

end Sys2Proof.Machine

/-! # The pressure monitor -/

namespace Sys2Proof.Machine

/-! ## A PROCESS frame at the inlet (R110) -/

theorem processOf_of_length {p : List Byte} (h : p.length = 10) :
    processOf p = some { valid := (byteAt p 6).getLsbD 0, pressure := fieldAt p 7 3 } := if_pos h

theorem exec_process_of_framePasses {f : Frame} {s : State} (h : FramePasses kindProcess f s)
    (hlen : f.payload.length = 10) :
    exec (.process f) s =
      .next (takeProcess { valid := (byteAt f.payload 6).getLsbD 0, pressure := fieldAt f.payload 7 3 } s) :=
  congrArg Host.Outcome.next (receive_of_framePasses h (processOf_of_length hlen))

theorem takeProcess_of_valid {x : ProcessFrame} {s : State} (h : x.valid = true) :
    takeProcess x s = processValid x.pressure s := if_pos h

theorem takeProcess_of_not_valid {x : ProcessFrame} {s : State} (h : x.valid = false) :
    takeProcess x s = processInvalid s := if_neg (Bool.eq_false_iff.mp h)

/-! ## The pressure marks (R106) -/

/-- The two pressure sources, each with its own comparison; every other source holds at no pressure. -/
theorem pressureHolds_eq_decide (p : Nat) (m : MarkSpec) :
    pressureHolds p m =
      decide ((m.source = .pressureAtLeast ∧ m.parameter ≤ p) ∨ (m.source = .pressureAtMost ∧ p ≤ m.parameter)) := by
  unfold pressureHolds
  split
  · next hleast => simp [hleast]
  · next hmost => simp [hmost]
  · next hleast hmost =>
    refine (decide_eq_false ?_).symm
    rintro (⟨h, -⟩ | ⟨h, -⟩)
    · exact hleast h
    · exact hmost h

/-- Settles O45: the valid flag chooses between R112 and R113; what a mark's source and parameter say of the pressure is
`pressureHolds_eq_decide`. -/
theorem processFrameTaken : Obligations.ProcessFrameTaken := by
  intro f s hpass hlen p holds
  have hholds : pressureHolds p = holds := funext (pressureHolds_eq_decide p)
  refine ⟨fun hvalid => ?_, fun hinvalid => ?_⟩
  · rw [exec_process_of_framePasses hpass hlen, takeProcess_of_valid hvalid, processValid, hholds]
    rfl
  · rw [exec_process_of_framePasses hpass hlen, takeProcess_of_not_valid hinvalid]
    rfl

end Sys2Proof.Machine

/-! # The record outlet -/

namespace Sys2Proof.Machine

/-! ## The arbiter's turn (R141) -/

theorem linkFree_iff {s : State} : linkFree s = true ↔ s.ready = true ∧ s.outlet.sending = none := by
  simp [linkFree]

theorem linkFree_eq_false_iff {s : State} : linkFree s = false ↔ s.ready = false ∨ s.outlet.sending ≠ none := by
  rw [← Bool.not_eq_true, linkFree_iff, not_and_or, Bool.not_eq_true]

theorem arbitrate_of_linkFree {s : State} (h : linkFree s = true) : arbitrate s = s.onOutlet chooseNext := if_pos h

/-- The turn touches nothing but the outlet. -/
theorem arbitrate_eq_with_outlet (s : State) : arbitrate s = { s with outlet := (arbitrate s).outlet } := by
  cases h : linkFree s with
  | true => rw [arbitrate_of_linkFree h]; rfl
  | false => rw [arbitrate_of_not_linkFree h]

theorem arbitrate_outlet_of_busy {s : State} (h : s.ready = false ∨ s.outlet.sending ≠ none) :
    (arbitrate s).outlet = s.outlet :=
  congrArg State.outlet (arbitrate_of_not_linkFree (linkFree_eq_false_iff.mpr h))

theorem arbiterChoice_arbitrate {s : State} (hready : s.ready = true) (hidle : s.outlet.sending = none) :
    ArbiterChoice s.outlet (arbitrate s).outlet := by
  rw [arbitrate_of_linkFree (linkFree_iff.mpr ⟨hready, hidle⟩)]
  exact arbiterChoice_chooseNext s.outlet

/-- Settles O10: each of the two link events is a turn of the arbiter, on the state in which the line has its new level or
the frame in transmission has gone. -/
theorem arbiterChoosesByStrictPriority : Obligations.ArbiterChoosesByStrictPriority := by
  refine ⟨fun level s => ⟨setReady level s, rfl, ?frame, ?busy, ?free⟩,
    fun s => ⟨transmissionDone s, rfl, ?doneFrame, ?doneBusy, ?doneFree⟩,
    fun s => ⟨arbitrate_eq_with_outlet s, arbitrate_outlet_of_busy, arbiterChoice_arbitrate⟩⟩
  case frame => exact arbitrate_eq_with_outlet (s.withReady level)
  case busy => exact arbitrate_outlet_of_busy (s := s.withReady level)
  case free => exact arbiterChoice_arbitrate (s := s.withReady level)
  case doneFrame => exact arbitrate_eq_with_outlet (s.onOutlet fun o => { o with sending := none })
  case doneBusy => exact fun hready => arbitrate_outlet_of_busy (s := s.onOutlet _) (.inl hready)
  case doneFree =>
    exact fun hready => arbiterChoice_arbitrate (s := s.onOutlet fun o => { o with sending := none }) hready rfl

end Sys2Proof.Machine

/-! # Condition sets and CLEAR-CONDITIONS -/

namespace Sys2Proof.Machine

/-! ## A list of flags as a number (R171) -/

theorem bitsOf_cons (b : Bool) (bs : List Bool) : bitsOf (b :: bs) = Nat.bit b (bitsOf bs) := by
  rw [bitsOf, Nat.bit_val, Nat.add_comm]

theorem testBit_bitsOf (bs : List Bool) (i : Nat) : (bitsOf bs).testBit i = bs.getD i false := by
  induction bs generalizing i with
  | nil => exact Nat.zero_testBit i
  | cons b bs ih =>
    rw [bitsOf_cons]
    cases i with
    | zero => exact Nat.testBit_bit_zero b _
    | succ i => exact (Nat.testBit_bit_succ i b _).trans (ih i)

theorem bitsOf_lt_two_pow (bs : List Bool) : bitsOf bs < 2 ^ bs.length := by
  refine Nat.lt_pow_two_of_testBit _ fun i hi => ?_
  rw [testBit_bitsOf, List.getD_eq_default _ _ hi]

/-! ## A condition set in its field -/

theorem has_condSetOfBits (n : Nat) (d : Condition) : (condSetOfBits n).has d = n.testBit (conditionCode d) := by
  cases d <;> rfl

theorem CondSet.getD_flags_conditionCode (set : CondSet) (d : Condition) :
    set.flags.getD (conditionCode d) false = set.has d := by
  cases d <;> rfl

theorem CondSet.testBit_bits (set : CondSet) (d : Condition) : set.bits.testBit (conditionCode d) = set.has d := by
  rw [CondSet.bits, testBit_bitsOf, CondSet.getD_flags_conditionCode]

theorem CondSet.bits_lt (set : CondSet) : set.bits < 512 := by
  have hlength : set.flags.length = 9 := rfl
  have hlt := bitsOf_lt_two_pow set.flags
  rwa [hlength] at hlt

/-! ## CLEAR-CONDITIONS carried out (R159) -/

section
variable {m : MgmtFrame} {s : State}

theorem has_clearedBy (named : CondSet) (u : FaultUnit) (d : Condition) :
    (clearedBy named u).has d = (named.has d && u.pendingSet.has d && u.seenSet.has d) := by
  rw [clearedBy, CondSet.has_inter, CondSet.has_inter, Bool.and_assoc]

/-- The fault unit with both flags of every condition in `cleared` down (R159). -/
def clearFlags (cleared : CondSet) (u : FaultUnit) : FaultUnit :=
  { u with pendingSet := u.pendingSet.diff cleared, seenSet := u.seenSet.diff cleared }

theorem carryClearConditions_of_lt (h : fieldAt m.body 0 2 < 512) :
    carryClearConditions m s =
      answer (mgmtAnswer m .done (.cleared (clearedBy (condSetOfBits (fieldAt m.body 0 2)) s.faults)))
        (s.onFaults (clearFlags (clearedBy (condSetOfBits (fieldAt m.body 0 2)) s.faults))) := if_pos h

theorem carryClearConditions_of_le (h : 512 ≤ fieldAt m.body 0 2) :
    carryClearConditions m s = answer (mgmtAnswer m .refusedRange .none) s := if_neg (Nat.not_lt.mpr h)

end

section
variable {f : Frame} {s : State}

/-- The set received stands behind the tag. -/
theorem fieldAt_body_frameInHand (k : MgmtKind) (f : Frame) (w : Nat) :
    fieldAt (frameInHand k f).body 0 w = fieldAt f.payload 1 w := fieldAt_drop f.payload 1 0 w

theorem exec_clearConditions_of_lt (h : Accepted .clearConditions f s) (hset : fieldAt f.payload 1 2 < 512) :
    exec (.clearConditions f) s =
      .next (answered
        (replyTo .clearConditions f .done (.cleared (clearedBy (condSetOfBits (fieldAt f.payload 1 2)) s.faults)))
        (s.onFaults (clearFlags (clearedBy (condSetOfBits (fieldAt f.payload 1 2)) s.faults)))) := by
  have hbody := fieldAt_body_frameInHand .clearConditions f 2
  rw [← hbody] at hset ⊢
  exact congrArg Host.Outcome.next (mgmtArrives_answered h rfl (carryClearConditions_of_lt hset))

theorem exec_clearConditions_of_le (h : Accepted .clearConditions f s) (hset : 512 ≤ fieldAt f.payload 1 2) :
    exec (.clearConditions f) s = .next (answered (replyTo .clearConditions f .refusedRange .none) s) := by
  rw [← fieldAt_body_frameInHand .clearConditions f 2] at hset
  exact congrArg Host.Outcome.next (mgmtArrives_answered h rfl (carryClearConditions_of_le hset))

end

/-- Settles O49: bits 9 to 15 choose between the two answers, and a set's bits are its flags in R171's order. -/
theorem clearConditionsClearsSeen : Obligations.ClearConditionsClearsSeen := by
  refine ⟨fun f s haccepted => ⟨exec_clearConditions_of_le haccepted, fun hset =>
    ⟨_, _, _, exec_clearConditions_of_lt haccepted hset, fun d => ?flags⟩⟩, ?bits⟩
  case flags =>
    intro clears
    have hclears : (clearedBy (condSetOfBits (fieldAt f.payload 1 2)) s.faults).has d = clears := has_clearedBy _ _ d
    rw [CondSet.has_diff, CondSet.has_diff, hclears]
    exact ⟨rfl, rfl, rfl⟩
  case bits =>
    intro bit
    have hbit : bit = conditionCode := funext fun d => by cases d <;> rfl
    rw [hbit]
    exact ⟨has_condSetOfBits, fun set => ⟨set.bits_lt, set.testBit_bits⟩⟩

end Sys2Proof.Machine

/-! # Faults, conditions and HALTED -/

namespace Sys2Proof.Machine

/-! ## A raised condition (R167) -/

/-- Of the cases of `disposition`, a CONDITION record meets two: HALTED, and the limit of the test records (R145, R151). -/
theorem disposition_condition_eq_admitted_iff {r : ConditionRecord} {s : State} :
    disposition (.condition r) s = .admitted ↔ s.faults.halted = false ∧ s.outlet.records.length < 512 := by
  cases hhalted : s.faults.halted with
  | true => simp [disposition, hhalted]
  | false =>
    by_cases hroom : s.outlet.records.length < 512 <;>
      simp [disposition, hhalted, recordLimit, Config.recordCapacity, hroom]

/-- The first step of a raise: the condition's pending flag is up (R167). -/
def setPending (c : Condition) (s : State) : State :=
  s.onFaults fun u => { u with pendingSet := u.pendingSet.insert c }

section
variable {offer : Record → State → State} {c : Condition} {s : State}

theorem raiseWith_of_masked (hclear : s.faults.pendingSet.has c = false) (hmask : s.active.test.reportMask.has c = false) :
    raiseWith offer c s = setPending c s := by
  rw [raiseWith, if_neg (Bool.eq_false_iff.mp hclear)]
  exact if_neg (Bool.eq_false_iff.mp hmask)

/-- A condition that is reported: its record is offered, and the seen flag follows what became of the record. -/
theorem raiseWith_of_reported (hclear : s.faults.pendingSet.has c = false)
    (hmask : s.active.test.reportMask.has c = true) :
    raiseWith offer c s =
      if disposition (conditionRecord c (setPending c s)) (setPending c s) = .admitted then
        (offer (conditionRecord c (setPending c s)) (setPending c s)).onFaults fun u =>
          { u with seenSet := u.seenSet.insert c }
      else offer (conditionRecord c (setPending c s)) (setPending c s) := by
  rw [raiseWith, if_neg (Bool.eq_false_iff.mp hclear)]
  exact if_pos hmask

theorem raise_of_pending (h : s.faults.pendingSet.has c = true) : raise c s = arbitrate s :=
  congrArg arbitrate (raiseWith_pending h)

theorem raise_of_masked (hclear : s.faults.pendingSet.has c = false) (hmask : s.active.test.reportMask.has c = false) :
    raise c s = arbitrate (setPending c s) :=
  congrArg arbitrate (raiseWith_of_masked hclear hmask)

/-- The arbiter's turn comes after the seen flag is set, and finds the outlet that the offer left. -/
theorem raise_of_admitted (hclear : s.faults.pendingSet.has c = false) (hmask : s.active.test.reportMask.has c = true)
    (hhalted : s.faults.halted = false) (hroom : s.outlet.records.length < 512) :
    raise c s = (offerRecord (conditionRecord c (setPending c s)) (setPending c s)).onFaults fun u =>
      { u with seenSet := u.seenSet.insert c } := by
  have hadmitted : disposition (conditionRecord c (setPending c s)) (setPending c s) = .admitted :=
    disposition_condition_eq_admitted_iff.mpr ⟨hhalted, hroom⟩
  rw [raise, raiseWith_of_reported hclear hmask, if_pos hadmitted, arbitrate_onFaults, offerRecord]

theorem raise_of_not_admitted (hclear : s.faults.pendingSet.has c = false)
    (hmask : s.active.test.reportMask.has c = true) (hlost : s.faults.halted = true ∨ 512 ≤ s.outlet.records.length) :
    raise c s = offerRecord (conditionRecord c (setPending c s)) (setPending c s) := by
  have hnot : disposition (conditionRecord c (setPending c s)) (setPending c s) ≠ .admitted := by
    intro hadmitted
    obtain ⟨hhalted, hroom⟩ := disposition_condition_eq_admitted_iff.mp hadmitted
    rcases hlost with hlost | hfull
    · exact Bool.false_ne_true (hhalted.symm.trans hlost)
    · exact Nat.not_le.mpr hroom hfull
  rw [raise, raiseWith_of_reported hclear hmask, if_neg hnot, offerRecord]

end

/-- Settles O13: the pending flag, the report mask and the admission of the record decide in turn, and the pended state of
the statement is `setPending`. -/
theorem conditionRaise : Obligations.ConditionRaise :=
  ⟨fun _ _ => raise_of_pending, fun _ _ hclear =>
    ⟨raise_of_masked hclear, raise_of_admitted hclear, raise_of_not_admitted hclear⟩⟩

/-! ## The fault record on its way out (R141, R164) -/

/-- The fault record stands in the slot or has been chosen for transmission. -/
def FaultShown (r : FaultRecord) (s : State) : Prop :=
  s.outlet.faultSlot = some r ∨ s.outlet.sending = some (.fault r)

section
variable {r : FaultRecord} {s : State}

/-- The arbiter's turn moves the record out of the slot only into transmission, and acts only while nothing is there. -/
theorem FaultShown.arbitrate (h : FaultShown r s) : FaultShown r (arbitrate s) := by
  cases hlink : linkFree s with
  | false => rwa [arbitrate_of_not_linkFree hlink]
  | true =>
    have hidle : s.outlet.sending = none := sending_none_of_linkFree hlink
    rcases h with hslot | hsending
    · obtain ⟨hfirst, -⟩ := arbiterChoice_chooseNext s.outlet
      rw [arbitrate_of_linkFree hlink]
      exact .inr (congrArg Outlet.sending (hfirst r hslot))
    · rw [hidle] at hsending
      contradiction

theorem FaultShown.answer (a : Answer) (h : FaultShown r s) : FaultShown r (answer a s) :=
  FaultShown.arbitrate (s := fillAnswers [a] s) h

theorem FaultShown.answerEach (as : List Answer) (h : FaultShown r s) : FaultShown r (answerEach as s) := by
  induction as generalizing s with
  | nil => exact h
  | cons a as ih => exact ih (h.answer a)

/-- Of the directives of HALTED, the CANCELLED answers alone give the arbiter a turn (R161, R165). -/
theorem FaultShown.enterHalted (h : FaultShown r s) : FaultShown r (enterHalted s) :=
  .answerEach _ (.answerEach _ h)

end

/-! ## A fault report outside HALTED (R164) -/

/-- The three traps of R162; every other code is a fault. -/
theorem faultClassOf_eq (code : FaultCode) :
    faultClassOf code = if code = .tickGap ∨ code = .laneLag ∨ code = .modeSkip then .trap else .fault := by
  cases code <;> rfl

/-- Settles O15: one law of `reportFault` for each filling of the slot, and the record that halts the part is shown
through every answer that entry to HALTED builds. -/
theorem faultReportActsOnTheSlot : Obligations.FaultReportActsOnTheSlot := by
  intro code selector s hhalted
  refine ⟨fun hslot => ?first, fun r hslot hsingle => reportFault_second hhalted hslot hsingle,
    fun r hslot hdouble => ?third⟩
  case first =>
    rw [reportFault_first hhalted hslot, firstFault, faultClassOf_eq]
    rfl
  case third =>
    rw [reportFault_third hhalted hslot hdouble]
    exact ⟨congrArg FaultUnit.halted (enterHalted_faults _), FaultShown.enterHalted (.inl rfl)⟩

end Sys2Proof.Machine

/-! # What a command can do -/

namespace Sys2Proof.Machine

/-! ## The inlet (R2, R110, R153, R161) -/

/-- A frame at the inlet is discarded, reported, or handed on. -/
theorem receive_cases {α : Type} (kind : Byte) (f : Frame) (parse : List Byte → Option α) (handOn : α → State → State)
    (s : State) :
    receive kind f parse handOn s = s ∨
    (s.faults.halted = false ∧ ∃ code sel, receive kind f parse handOn s = reportFault code sel s) ∨
    (s.faults.halted = false ∧ checkOk kind f = true ∧
      ∃ a, parse f.payload = some a ∧ receive kind f parse handOn s = handOn a s) := by
  cases hhalted : s.faults.halted with
  | true => exact .inl (by simp [receive, hhalted])
  | false =>
    cases hcheck : checkOk kind f with
    | false => exact .inr (.inl ⟨rfl, .frameCheck, some kind.toNat, by simp [receive, hhalted, hcheck]⟩)
    | true =>
      cases hparse : parse f.payload with
      | none => exact .inr (.inl ⟨rfl, .frameForm, some kind.toNat, by simp [receive, hhalted, hcheck, hparse]⟩)
      | some a => exact .inr (.inr ⟨rfl, rfl, a, rfl, by simp [receive, hhalted, hcheck, hparse]⟩)

/-- The kind and the frame of a management command other than RESET-LINK. -/
def mgmtCommand : Instr → Option (MgmtKind × Frame)
  | .identify f => some (.identify, f)
  | .writeTable f => some (.writeTable, f)
  | .readTable f => some (.readTable, f)
  | .readState f => some (.readState, f)
  | .setMark f => some (.setMark, f)
  | .dropOrders f => some (.dropOrders, f)
  | .clearConditions f => some (.clearConditions, f)
  | .arm f | .ramp f | .hold f | .unload f | .mute f | .unmute f | .swap f | .await f | .finish f => some (.order, f)
  | _ => none

section
variable {c : Instr} {k : MgmtKind} {f : Frame}

theorem exec_of_mgmtCommand (h : mgmtCommand c = some (k, f)) (s : State) :
    exec c s = .next (mgmtArrives k (mgmtKindCode k) f s) := by
  cases c <;> cases h <;> rfl

theorem mgmtCommand_kind_ne (h : mgmtCommand c = some (k, f)) : k ≠ .resetLink := by
  cases c <;> cases h
  all_goals simp

theorem eq_writeTable_of_mgmtCommand (h : mgmtCommand c = some (.writeTable, f)) : c = .writeTable f := by
  cases c <;> cases h
  rfl

end

/-- What the command `c` can make of the part: the whole reach of `exec`, block by block. -/
inductive Happens (s : State) : Instr → State → Prop
  | nothing (c : Instr) : Happens s c s
  | fault (c : Instr) (code : FaultCode) (sel : Option Nat) (running : s.faults.halted = false) :
      Happens s c (reportFault code sel s)
  | sample (f : Frame) (x : SampleFrame) (running : s.faults.halted = false) (parses : sampleOf f.payload = some x) :
      Happens s (.sample f) (trackSample x (offerSample f x.card s))
  | settle (f : Frame) (b : Tick) (p : PassFrame) (running : s.faults.halted = false) :
      Happens s (.settle f) (trackSettle b (offerPass p s))
  | process (f : Frame) (x : ProcessFrame) : Happens s (.process f) (takeProcess x s)
  | pass : Happens s .settlePass (runPass s)
  | unit (c : Instr) (ev : UnitEvent) (d : Chan) : Happens s c (unitStep ev d s)
  | ready (level : Bool) : Happens s (.readyLine level) (setReady level s)
  | done : Happens s .transmissionComplete (transmissionDone s)
  | mgmt (c : Instr) (m : MgmtFrame) (running : s.faults.halted = false) (kind : m.kind ≠ .resetLink)
      (write : m.kind = .writeTable → ∃ f, c = .writeTable f) : Happens s c (acceptMgmt m s)
  | powerOn : Happens s .powerOnReset (powerOnReset s)
  | link (f : Frame) (tag : Byte) (check : checkOk kindResetLink f = true) : Happens s (.resetLink f) (linkReset tag s)

theorem mgmtOf_eq_some {k : MgmtKind} {p : List Byte} {m : MgmtFrame} (h : mgmtOf k p = some m) : m.kind = k := by
  unfold mgmtOf at h
  split at h
  · cases h; rfl
  · cases h

/-- A frame at the inlet, one of the three ways of `receive_cases`. -/
theorem Happens.receive {α : Type} {c : Instr} {s : State} {kind : Byte} {f : Frame} {parse : List Byte → Option α}
    {handOn : α → State → State}
    (h : ∀ a, s.faults.halted = false → checkOk kind f = true → parse f.payload = some a → Happens s c (handOn a s)) :
    Happens s c (receive kind f parse handOn s) := by
  rcases receive_cases kind f parse handOn s with e | ⟨hrun, code, sel, e⟩ | ⟨hrun, hcheck, a, hparse, e⟩
  · rw [e]; exact .nothing c
  · rw [e]; exact .fault c code sel hrun
  · rw [e]; exact h a hrun hcheck hparse

theorem Happens.mgmtArrives {c : Instr} {k : MgmtKind} {f : Frame} (h : mgmtCommand c = some (k, f)) (s : State) :
    Happens s c (mgmtArrives k (mgmtKindCode k) f s) :=
  .receive fun m hrun _ hm =>
    have hkind : m.kind = k := mgmtOf_eq_some hm
    .mgmt c m hrun (hkind ▸ mgmtCommand_kind_ne h) fun hwrite =>
      ⟨f, eq_writeTable_of_mgmtCommand (h.trans (by rw [← hkind, hwrite]))⟩

theorem Happens.resetLinkArrives (f : Frame) (s : State) : Happens s (.resetLink f) (resetLinkArrives f s) := by
  unfold Machine.resetLinkArrives
  split
  · split
    · next hcheck =>
      split
      · exact .link f _ hcheck
      · exact .nothing _
    · exact .nothing _
  · exact .receive fun m _ hcheck _ => .link f m.tag hcheck

/-- Every command answers a next state, and it is one of those of `Happens`. -/
theorem exec_happens (c : Instr) (s : State) : ∃ t, exec c s = .next t ∧ Happens s c t := by
  cases hm : mgmtCommand c with
  | some kf => exact ⟨_, exec_of_mgmtCommand hm s, .mgmtArrives hm s⟩
  | none =>
    cases c with
    | powerOnReset => exact ⟨_, rfl, .powerOn⟩
    | sample f => exact ⟨_, rfl, .receive fun x hrun _ hx => .sample f x hrun hx⟩
    | settle f => exact ⟨_, rfl, .receive fun b hrun _ _ => .settle f b _ hrun⟩
    | process f => exact ⟨_, rfl, .receive fun x _ _ _ => .process f x⟩
    | settlePass => exact ⟨_, rfl, .pass⟩
    | normalEnd d => exact ⟨_, rfl, .unit _ .normalEnd d⟩
    | longEnd d => exact ⟨_, rfl, .unit _ .longEnd d⟩
    | rearmEnd d => exact ⟨_, rfl, .unit _ .rearmEnd d⟩
    | readyLine level => exact ⟨_, rfl, .ready level⟩
    | transmissionComplete => exact ⟨_, rfl, .done⟩
    | resetLink f => exact ⟨_, rfl, .resetLinkArrives f s⟩
    | unknownKind kind f => exact ⟨_, rfl, .receive fun _ _ _ h => nomatch h⟩
    | _ => cases hm

/-- The inversion of `exec`. -/
theorem happens_of_exec {c : Instr} {s t : State} (h : exec c s = .next t) : Happens s c t := by
  obtain ⟨u, hu, happens⟩ := exec_happens c s
  cases h.symm.trans hu
  exact happens

/-- What every command keeps, and what does not speak of the queue of commands, every step keeps. -/
theorem step_keeps {P : State → Prop} (hpending : ∀ s q, P s → P (s.withPending q))
    (hkeeps : ∀ c s t, Happens s c t → P s → P t) {s t : State} (h : step s = .next t) (hs : P s) : P t := by
  unfold step at h
  split at h
  · cases h; exact hs
  · exact hkeeps _ _ _ (happens_of_exec h) (hpending s _ hs)

end Sys2Proof.Machine

/-! # Relations that the moves of the blocks stay within

Each structure lists the small moves that a part of the model is made of; what is shown from it holds of every
reflexive and transitive relation that contains those moves, so an invariant is proved move by move. -/

namespace Sys2Proof.Machine

/-! ## Reports -/

/-- `R` contains what a report does. -/
structure ReportMoves (R : State → State → Prop) : Prop where
  refl : ∀ s, R s s
  trans : ∀ {s t u}, R s t → R t u → R s u
  offer : ∀ r s, R s (offerRecord r s)
  raise : ∀ c s, R s (raise c s)
  counters : ∀ f s, R s (onCounters f s)

namespace ReportMoves
variable {R : State → State → Prop} (m : ReportMoves R)
include m

theorem foldl {α : Type} {f : State → α → State} (h : ∀ a s, R s (f s a)) (l : List α) (s : State) :
    R s (l.foldl f s) := by
  induction l generalizing s with
  | nil => exact m.refl s
  | cons a l ih => exact m.trans (h a s) (ih _)

theorem countUnassociated (s : State) : R s (countUnassociated s) := m.counters _ s

omit m in
theorem ite (_ : ReportMoves R) {p : Prop} [Decidable p] {s t u : State} (ht : p → R s t) (hu : ¬p → R s u) :
    R s (if p then t else u) := by
  split
  · exact ht ‹_›
  · exact hu ‹_›

end ReportMoves

/-! ## Channel units and the notices they hand -/

/-- `R` contains what the end of a hit does. -/
structure EndMoves (R : State → State → Prop) : Prop extends ReportMoves R where
  units : ∀ f s, R s (s.onUnits f)
  draws : ∀ n s, R s (s.withDraws n)
  notice : ∀ c n f s, (∀ x, (f x).tick = x.tick ∧ (f x).chan = x.chan) → R s (s.onAssembler (applyNotice c n f))
  inFlight : ∀ (g : List EndNotice → List EndNotice) s, R s (s.onAssembler fun a => { a with inFlight := g a.inFlight })

namespace EndMoves
variable {R : State → State → Prop} (m : EndMoves R)
include m

theorem onUnit (c : Chan) (f : ChannelUnit → ChannelUnit) (s : State) : R s (s.onUnit c f) := m.units _ s

theorem setCtx (c : Chan) (ctx : Context) (s : State) : R s (setCtx c ctx s) := m.onUnit c _ s

theorem endNotice (n : EndNotice) (s : State) : R s (endNotice n s) := m.notice _ _ _ s fun _ => ⟨rfl, rfl⟩

theorem holdNotice (n : EndNotice) (s : State) : R s (holdNotice n s) := m.inFlight (fun l => l ++ [n]) s

theorem clipNotice (c : Chan) (n : Nat) (s : State) : R s (clipNotice c n s) := m.notice _ _ _ s fun _ => ⟨rfl, rfl⟩

theorem endSequence (c : Chan) (h : Hit) (k : HitEnd) (ph : Phase) (held : Bool) (s : State) :
    R s (endSequence c h k ph held s) := by
  refine m.trans (m.ite (fun _ => ?_) fun _ => ?_) (m.trans (m.counters _ _) (m.offer _ _))
  · exact m.holdNotice _ s
  · exact m.endNotice _ s

theorem endHit (c : Chan) (h : Hit) (k : HitEnd) (t : Tick) (s : State) : R s (endHit c h k t s) :=
  m.trans (m.endSequence c h k s.controller.phase false s) (m.setCtx c _ _)

theorem truncateUnit (c : Chan) (s : State) : R s (truncateUnit c s) := by
  unfold Machine.truncateUnit
  split
  · exact m.trans (m.endSequence ..) (m.onUnit ..)
  all_goals exact m.refl s

theorem truncateCard (k : Card) (s : State) : R s (truncateCard k s) := m.foldl (fun c s => m.truncateUnit c s) _ s

theorem stopUnit (ph : Phase) (mayHold : Bool) (c : Chan) (s : State) : R s (stopUnit ph mayHold c s) := by
  unfold Machine.stopUnit
  split
  · refine m.trans (m.ite (fun _ => m.draws ..) fun _ => m.refl s) (m.trans (m.endSequence ..) (m.onUnit ..))
  all_goals exact m.onUnit ..

end EndMoves

/-- `R` contains what the channel units do. -/
structure UnitMoves (R : State → State → Prop) : Prop extends EndMoves R where
  list : ∀ x s, listingOf x.tick s = .listed →
    R s (s.onAssembler fun a => { a with arrivals := insertArrival x a.arrivals })

namespace UnitMoves
variable {R : State → State → Prop} (m : UnitMoves R)
include m

theorem takeArrival (x : Arrival) (s : State) : R s (takeArrival x s) := by
  unfold Machine.takeArrival
  split
  · exact m.countUnassociated s
  · exact m.trans (m.countUnassociated s) (m.raise _ _)
  · exact m.list x s ‹_›

theorem startHit (c : Chan) (x : LaneSample) (s : State) : R s (startHit c x s) := by
  have listed (a : Arrival) (f : ChannelUnit → ChannelUnit) : R s ((Machine.takeArrival a s).onUnit c f) :=
    m.trans (m.takeArrival a s) (m.onUnit ..)
  have noticed (p : Prop) [Decidable p] (n : Nat) (t : State) (h : R s t) :
      R s (if p then Machine.clipNotice c n t else t) := m.ite (fun _ => m.trans h (m.clipNotice ..)) fun _ => h
  exact m.ite (fun _ => m.trans (noticed _ _ _ (listed _ _)) (m.endHit ..)) fun _ => noticed _ _ _ (listed _ _)

theorem takeReady (c : Chan) (x : LaneSample) (s : State) : R s (takeReady c x s) :=
  m.ite (fun _ => m.startHit c x s) fun _ => m.refl s

theorem takeOpen (c : Chan) (h : Hit) (x : LaneSample) (s : State) : R s (takeOpen c h x s) := by
  have tracked (p : Prop) [Decidable p] (n : Nat) (ctx : Context) :
      R s (Machine.setCtx c ctx (if p then Machine.clipNotice c n s else s)) :=
    m.trans (m.ite (fun _ => m.clipNotice ..) fun _ => m.refl s) (m.onUnit ..)
  exact m.ite (fun _ => m.trans (tracked ..) (m.endHit ..)) fun _ =>
    m.ite (fun _ => m.trans (tracked ..) (m.endHit ..)) fun _ => tracked ..

theorem takeSample (c : Chan) (x : LaneSample) (s : State) : R s (takeSample c x s) := by
  unfold Machine.takeSample
  split
  · exact m.refl s
  · exact m.takeReady c x s
  · exact m.takeOpen c _ x s
  · exact m.ite (fun _ => m.refl s) fun _ => m.trans (m.onUnit ..) (m.takeReady ..)

theorem takeHead (c : Chan) (s : State) : R s (takeHead c s) := by
  unfold Machine.takeHead
  split
  · exact m.refl s
  · exact m.trans (m.onUnit ..) (m.takeSample ..)

theorem runLane (n : Nat) (c : Chan) (s : State) : R s (runLane n c s) := by
  induction n generalizing s with
  | zero => exact m.refl s
  | succ n ih => exact m.ite (fun _ => m.refl s) fun _ => m.trans (m.takeHead c s) (ih _)

theorem takeLane (n : Nat) (c : Chan) (s : State) : R s (takeLane n c s) := by
  induction n generalizing s with
  | zero => exact m.refl s
  | succ n ih => exact m.trans (m.takeHead c s) (ih _)

theorem drainUnit (c : Chan) (s : State) : R s (drainUnit c s) := m.takeLane _ c s

theorem runUnit (c : Chan) (s : State) : R s (runUnit c s) := m.runLane _ c s

theorem unitStep (ev : UnitEvent) (c : Chan) (s : State) : R s (unitStep ev c s) :=
  m.ite (fun _ => m.trans (m.takeHead c s) (m.runUnit ..)) fun _ => m.refl s

theorem handSample (c : Chan) (x : LaneSample) (s : State) : R s (handSample c x s) :=
  m.trans (m.onUnit ..) (m.runUnit ..)

theorem handSet (k : Card) (t : Tick) (values : List Int) (s : State) : R s (handSet k t values s) :=
  m.foldl (fun _ _ => m.handSample ..) _ s

theorem handSets (k : Card) (t : Tick) (sets : List (List Int)) (s : State) : R s (handSets k t sets s) := by
  induction sets generalizing t s with
  | nil => exact m.refl s
  | cons v vs ih => exact m.trans (m.handSet k t v s) (ih _ _)

theorem drainCard (k : Card) (s : State) : R s (drainCard k s) := m.foldl (fun c s => m.drainUnit c s) _ s

theorem drainAll (s : State) : R s (drainAll s) := m.foldl (fun c s => m.drainUnit c s) _ s

theorem armUnits (s : State) : R s (armUnits s) := m.foldl (fun _ _ => m.onUnit ..) _ s

end UnitMoves

/-! ## The placing of arrivals -/

/-- `R` contains what the assembler does with its list, its events and the notices that reach it. -/
structure PlaceMoves (R : State → State → Prop) : Prop extends ReportMoves R where
  told : ∀ c n f s, (∀ x, (f x).tick = x.tick ∧ (f x).chan = x.chan) → R s (s.onAssembler (applyNotice c n f))
  landed : ∀ s, R s (s.onAssembler fun a => { a with inFlight := [] })
  taken : ∀ s, R s (s.onAssembler fun a => { a with arrivals := a.arrivals.tail })
  join : ∀ x i s, candidateSlot x s.assembler.slots = some i → R s (s.onAssembler (joinEvent x i))
  opened : ∀ x (i : Fin 8) n s, R s (s.onAssembler fun a =>
    { a with slots := a.slots.set i (some (openedEvent x n s.active.test)), eventNumber := n })
  free : ∀ i s, R s (freeTheSlot i s)

namespace PlaceMoves
variable {R : State → State → Prop} (m : PlaceMoves R)
include m

theorem placeArrival (x : Arrival) (s : State) : R s (placeArrival x s) := by
  unfold Machine.placeArrival
  split
  · exact m.join x _ s ‹_›
  · split
    · exact m.opened x _ _ s
    · exact m.trans (m.countUnassociated s) (m.raise _ _)

theorem takeEntry (x : Arrival) (s : State) : R s (takeEntry x s) := m.trans (m.taken s) (m.placeArrival x _)

theorem takeEntries (xs : List Arrival) (s : State) : R s (takeEntries xs s) := m.foldl (fun x s => m.takeEntry x s) xs s

theorem deliverNotices (s : State) : R s (deliverNotices s) :=
  m.trans (m.landed s) (m.foldl (fun n s => m.told n.chan n.serial (markEnded n) s fun _ => ⟨rfl, rfl⟩) _ _)

end PlaceMoves

/-! ## The stages of a settle pass -/

/-- `R` contains what a close report does. -/
structure CloseMoves (R : State → State → Prop) : Prop extends ReportMoves R where
  stop : ∀ ph b c s, R s (stopUnit ph b c s)
  controller : ∀ f s, (f s.controller).queue = s.controller.queue → (f s.controller).stalled = s.controller.stalled →
    R s (s.onController f)

namespace CloseMoves
variable {R : State → State → Prop} (m : CloseMoves R)
include m

theorem setMarks (p : MarkSpec → Bool) (s : State) : R s (setMarks p s) := m.controller _ s rfl rfl

theorem stopAll (ph : Phase) (mayHold : Bool) (s : State) : R s (stopAll ph mayHold s) :=
  m.foldl (fun c s => m.stop ph mayHold c s) _ s

theorem endRamp (s : State) : R s (endRamp s) := by
  unfold Machine.endRamp
  split
  · exact m.refl s
  · exact m.trans (m.ite (fun _ => m.offer _ s) fun _ => m.refl s) (m.controller _ _ rfl rfl)

theorem leavePhase (new : Phase) (s : State) : R s (leavePhase new s) := by
  unfold Machine.leavePhase
  split
  · exact m.ite (fun _ => m.refl s) fun _ => m.endRamp s
  · exact m.controller _ s rfl rfl
  all_goals exact m.refl s

theorem changePhase (new : Phase) (s : State) : R s (changePhase new s) :=
  m.trans (m.leavePhase new s) (m.trans (m.controller _ _ rfl rfl) (m.offer _ _))

theorem rampClose (n : Nat) (s : State) : R s (rampClose n s) := by
  unfold Machine.rampClose
  split
  · exact m.refl s
  · exact m.ite (fun _ => m.trans (m.controller _ s rfl rfl) (m.offer _ _)) fun _ => m.controller _ s rfl rfl

theorem holdClose (t : Tick) (s : State) : R s (holdClose t s) := by
  unfold Machine.holdClose
  split
  · exact m.refl s
  · exact m.ite (fun _ => m.trans (m.controller _ s rfl rfl) (m.raise _ _)) fun _ => m.controller _ s rfl rfl

theorem normalClose (r : CloseReport) (s : State) : R s (normalClose r s) := by
  have counted : R s (Machine.setMarks (eventsHold (countOn s.controller.phaseEvents))
      (s.onController fun c => { c with phaseEvents := countOn c.phaseEvents })) :=
    m.trans (m.controller _ s rfl rfl) (m.setMarks _ _)
  refine m.trans counted ?_
  unfold Machine.normalClose
  dsimp only
  split
  · exact m.holdClose _ _
  · exact m.rampClose _ _
  all_goals exact m.refl _

theorem rupture (r : CloseReport) (s : State) : R s (rupture r s) :=
  m.trans (m.controller _ s rfl rfl) <| m.trans (m.offer _ _) <| m.trans (m.raise _ _) <| m.trans (m.setMarks _ _) <|
    m.trans (m.changePhase _ _) (m.stopAll _ _ _)

theorem closeReport (r : CloseReport) (s : State) : R s (closeReport r s) := by
  have counted := m.counters (fun c =>
    { c with events := countOn c.events, guarded := if r.cls = .guarded then countOn c.guarded else c.guarded }) s
  have closed (t : State) (h : R s t) : R s (if r.cls = .normal then Machine.normalClose r t else t) :=
    m.ite (fun _ => m.trans h (m.normalClose r t)) fun _ => h
  exact m.ite (fun _ => m.trans (closed _ counted) (m.rupture r _)) fun _ => closed _ counted

end CloseMoves

/-- `R` contains what the assembler's stage does, and of the controller's stage what leaves the order queue. -/
structure StageMoves (R : State → State → Prop) : Prop extends PlaceMoves R, CloseMoves R where
  wake : ∀ c s, modeListens s.active.channels[c].mode = true → R s (s.onUnit c readyUnit)

namespace StageMoves
variable {R : State → State → Prop} (m : StageMoves R)
include m

theorem readyListening (s : State) : R s (readyListening s) :=
  m.foldl (fun c s => m.ite (fun h => m.wake c s h) fun _ => m.refl s) _ s

theorem beginHold (s : State) : R s (beginHold s) := by
  unfold Machine.beginHold
  exact m.controller _ s rfl rfl

theorem beginRamp (s : State) : R s (beginRamp s) := by
  unfold Machine.beginRamp
  exact m.controller _ s rfl rfl

theorem closeEvent (i : Fin 8) (e : Event) (reason : CloseReason) (s : State) : R s (closeEvent i e reason s) :=
  m.trans (m.offer _ s) (m.trans (m.closeReport _ _) (m.free i _))

theorem examineSlot (t : Tick) (s : State) (i : Fin 8) : R s (examineSlot t s i) := by
  unfold Machine.examineSlot
  split
  · exact m.refl s
  · split
    · exact m.refl s
    · exact m.closeEvent i _ _ s

theorem flushSlot (s : State) (i : Fin 8) : R s (flushSlot s i) := by
  unfold Machine.flushSlot
  split
  · exact m.refl s
  · exact m.closeEvent i _ _ s

theorem assemblerStage (s : State) : R s (assemblerStage s) := by
  unfold Machine.assemblerStage
  exact m.trans (m.takeEntries _ s) <| m.trans (m.foldl (fun i s => m.examineSlot _ s i) _ _) (m.deliverNotices _)

theorem flush (s : State) : R s (flush s) :=
  m.trans (m.takeEntries _ s) (m.foldl (fun i s => m.flushSlot s i) _ _)

theorem endBookkeeping (s : State) : R s (endBookkeeping s) := m.trans (m.endRamp s) (m.controller _ _ rfl rfl)

theorem holdQuiet (s : State) : R s (holdQuiet s) := by
  unfold Machine.holdQuiet
  split
  · exact m.setMarks _ s
  · exact m.refl s

theorem swapDirective (before : Vector ChannelEntry 32) (s : State) (c : Chan) : R s (swapDirective before s c) := by
  unfold Machine.swapDirective
  split
  · exact m.stop ..
  · next hlistens => exact m.ite (fun _ => m.wake c s hlistens) fun _ => m.refl s
  all_goals exact m.refl s

theorem swapDirectives (before : Vector ChannelEntry 32) (s : State) : R s (swapDirectives before s) :=
  m.foldl (fun c s => m.swapDirective before s c) _ s

end StageMoves

/-! ## The tick tracker -/

/-- `R` contains what the tick tracker does with a frame, short of a new S. -/
structure TickMoves (R : State → State → Prop) : Prop extends UnitMoves R where
  tracker : ∀ f s, (∀ t, (f t).settled = t.settled) → R s (s.onTracker f)
  pass : ∀ p s, R s (offerPass p s)
  settled : ∀ s, R s (settleTaken s)
  fault : ∀ code sel s, R s (reportFault code sel s)

namespace TickMoves
variable {R : State → State → Prop} (m : TickMoves R)
include m

theorem offerSample (f : Frame) (k : Card) (s : State) : R s (offerSample f k s) :=
  m.ite (fun _ => m.pass _ s) fun _ => m.refl s

theorem advanceCard (k : Card) (t : Tick) (s : State) : R s (advanceCard k t s) := m.tracker _ s (by intro _; rfl)

theorem sampleGap (x : SampleFrame) (s : State) : R s (sampleGap x s) := by
  unfold Machine.sampleGap
  dsimp only
  refine m.ite (fun _ => ?_) fun _ => m.trans ?_ (m.handSets ..)
  all_goals exact m.trans (m.truncateCard _ s) (m.trans (m.advanceCard _ _ _) (m.fault _ _ _))

theorem trackSample (x : SampleFrame) (s : State) : R s (trackSample x s) := by
  refine m.ite (fun _ => m.refl s) fun _ => ?_
  split
  · exact m.fault _ _ s
  · exact m.trans (m.drainCard _ s) (m.trans (m.advanceCard _ _ _) (m.handSets ..))
  · exact m.trans (m.drainCard _ s) (m.sampleGap x _)

theorem lagCheck (b : Tick) (s : State) : R s (lagCheck b s) :=
  m.foldl (fun k s => m.ite (fun _ => m.refl s) fun _ =>
    m.ite (fun _ => m.trans (m.truncateCard k s) (m.trans (m.tracker _ _ (by intro _; rfl)) (m.fault _ _ _))) fun _ => m.refl s) _ s

/-! ### A pass begun -/

variable (begun : ∀ b s, R s (beginPass b s))
include begun

theorem settleAccepted (b : Tick) (s : State) : R s (settleAccepted b s) := by
  unfold Machine.settleAccepted
  dsimp only
  refine m.ite (fun _ => ?_) fun _ => m.trans ?_ (begun b _)
  all_goals exact m.trans (m.drainAll s) (m.trans (m.tracker _ _ (by intro _; rfl)) (m.trans (m.settled _) (m.lagCheck b _)))

theorem trackSettle (b : Tick) (s : State) : R s (trackSettle b s) := by
  refine m.ite (fun _ => m.settled s) fun _ => m.ite (fun _ => ?_) fun _ =>
    m.ite (fun _ => m.fault _ _ s) fun _ => m.settleAccepted begun b s
  split
  · exact m.tracker _ s (by intro _; rfl)
  · exact m.fault _ _ s

theorem endPass (s : State) : R s (endPass s) := by
  refine m.ite (fun _ => m.refl s) fun _ => ?_
  split
  · exact m.tracker _ s (by intro _; rfl)
  · exact m.trans (m.tracker _ s (by intro _; rfl)) (m.trackSettle begun _ _)

end TickMoves

/-! ## Whole commands -/

/-- `R` contains what a command does, whatever it makes of the controller, the tracker, the monitor, the active tables and
the units. -/
structure BlockMoves (R : State → State → Prop) : Prop extends TickMoves R where
  controller : ∀ f s, R s (s.onController f)
  monitor : ∀ f s, R s (s.onMonitor f)
  active : ∀ f s, R s (s.onActive f)
  taken : ∀ s, R s (s.onAssembler fun a => { a with arrivals := a.arrivals.tail })
  join : ∀ x i s, candidateSlot x s.assembler.slots = some i → R s (s.onAssembler (joinEvent x i))
  opened : ∀ x (i : Fin 8) n s, R s (s.onAssembler fun a =>
    { a with slots := a.slots.set i (some (openedEvent x n s.active.test)), eventNumber := n })
  free : ∀ i s, R s (freeTheSlot i s)
  cleared : ∀ s, R s (s.onAssembler fun _ => .initial)
  forgotten : ∀ f s, (∀ t, (f t).settled = none) → R s (s.onTracker f)
  answer : ∀ a s, R s (answer a s)
  seen : ∀ s, R s (s.onFaults fun u => { u with seenSet := u.seenSet.union u.pendingSet })
  unseen : ∀ d s, R s (s.onFaults fun u => { u with pendingSet := u.pendingSet.diff d, seenSet := u.seenSet.diff d })

namespace BlockMoves
variable {R : State → State → Prop} (m : BlockMoves R)
include m

theorem stages : StageMoves R where
  toReportMoves := m.toReportMoves
  stop := m.stopUnit
  wake c s _ := m.onUnit c _ s
  controller f s _ _ := m.controller f s
  told := m.notice
  landed := m.inFlight fun _ => []
  taken := m.taken
  join := m.join
  opened := m.opened
  free := m.free

/-! ### Orders -/

theorem answerEach (as : List Answer) (s : State) : R s (answerEach as s) := m.foldl (fun a s => m.answer a s) as s

theorem cancelOrders (s : State) : R s (cancelOrders s) := m.trans (m.controller _ s) (m.answerEach _ _)

theorem swapTable (name : TableName) (s : State) : R s (swapTable name s) := by
  unfold Machine.swapTable
  split
  · exact m.fault _ _ s
  · cases name with
    | channel =>
      dsimp only
      split
      · exact m.trans (m.active _ s) (m.fault _ _ _)
      · exact m.active _ s
    | pair | decibel | test => exact m.active _ s

theorem handleTables (ts : List TableName) (s : State) : R s (handleTables ts s) := by
  induction ts generalizing s with
  | nil => exact m.refl s
  | cons t ts ih => exact m.ite (fun _ => m.refl s) fun _ => m.trans (m.swapTable t s) (ih _)

theorem swapOrder (name : SwapName) (tag : Byte) (s : State) : R s (swapOrder name tag s) :=
  m.trans (m.trans (m.handleTables _ s) (m.ite (fun _ => m.refl _) fun _ => m.stages.swapDirectives _ _)) (m.answer _ _)

theorem armOrder (tag : Byte) (s : State) : R s (armOrder tag s) :=
  m.trans (m.controller _ s) <| m.trans (m.forgotten _ _ (by intro _; rfl)) <| m.trans (m.cleared _) <| m.trans (m.monitor _ _) <|
    m.trans (m.controller _ _) <| m.trans (m.offer _ _) <| m.trans (m.armUnits _) (m.answer _ _)

theorem orderInIdle (o : Order) (tag : Byte) (s : State) : R s (orderInIdle o tag s) := by
  cases o with
  | arm => exact m.armOrder tag s
  | swap name => exact m.swapOrder name tag s
  | _ => exact m.answer _ s

theorem orderInTest (o : Order) (tag : Byte) (s : State) : R s (orderInTest o tag s) :=
  m.ite (fun _ => m.answer _ s) fun _ => m.ite (fun _ => m.answer _ s) fun _ => m.controller _ s

theorem orderArrives (o : Order) (tag : Byte) (s : State) : R s (orderArrives o tag s) :=
  m.ite (fun _ => m.orderInIdle o tag s) fun _ => m.orderInTest o tag s

theorem rampTaken (tag : Byte) (s : State) : R s (rampTaken tag s) :=
  m.trans (m.stages.changePhase _ s) (m.trans (m.stages.beginRamp _) (m.answer _ _))

theorem holdTaken (tag : Byte) (s : State) : R s (holdTaken tag s) :=
  m.trans (m.stages.changePhase _ s) (m.trans (m.stages.beginHold _) (m.answer _ _))

theorem unloadTaken (tag : Byte) (s : State) : R s (unloadTaken tag s) :=
  m.trans (m.stages.changePhase _ s) (m.trans (m.controller _ _) (m.answer _ _))

theorem muteTaken (tag : Byte) (s : State) : R s (muteTaken tag s) :=
  m.trans (m.controller _ s) <| m.trans (m.stages.changePhase _ _) <| m.trans (m.stages.stopAll _ _ _) (m.answer _ _)

theorem unmuteTaken (tag : Byte) (s : State) : R s (unmuteTaken tag s) :=
  m.trans (m.trans (m.stages.changePhase _ s) (m.controller _ _)) <|
    m.trans (m.ite (fun _ => m.stages.beginHold _) fun _ => m.refl _) <|
      m.trans (m.stages.readyListening _) (m.answer _ _)

theorem finishTaken (tag : Byte) (s : State) : R s (finishTaken tag s) :=
  m.trans (m.stages.stopAll _ _ s) <| m.trans (m.stages.flush _) <| m.trans (m.stages.endBookkeeping _) <|
    m.trans (m.offer _ _) <| m.trans (m.cancelOrders _) <| m.trans (m.controller _ _) <| m.trans (m.offer _ _) <|
      m.trans (m.forgotten _ _ (by intro _; rfl)) (m.answer _ _)

theorem takeOrder (q : QueuedOrder) (s : State) : R s (takeOrder q s) := by
  have popped : R s (popHead s) := m.controller _ s
  unfold Machine.takeOrder
  split
  · exact m.refl s
  · exact m.trans popped (m.rampTaken _ _)
  · exact m.trans popped (m.holdTaken _ _)
  · exact m.trans popped (m.unloadTaken _ _)
  · exact m.trans popped (m.muteTaken _ _)
  · exact m.trans popped (m.unmuteTaken _ _)
  · exact m.trans popped (m.swapOrder _ _ _)
  · exact m.ite (fun _ => m.trans (m.controller _ s) (m.trans (m.controller _ _) (m.answer _ _)))
      fun _ => m.controller _ s
  · exact m.trans popped (m.finishTaken _ _)

theorem examineHead (s : State) : R s (examineHead s) := by
  unfold Machine.examineHead
  split
  · exact m.refl s
  · exact m.ite (fun _ => m.takeOrder _ s) fun _ => m.trans (m.controller _ s) (m.answer _ _)

theorem controllerStage (s : State) : R s (controllerStage s) := m.trans (m.stages.holdQuiet s) (m.examineHead _)

/-! ### The settle pass and the pressure -/

theorem runPass (begun : ∀ b s, R s (beginPass b s)) (s : State) : R s (runPass s) :=
  m.ite (fun _ => m.trans (m.stages.assemblerStage s) (m.trans (m.controllerStage _) (m.endPass begun _))) fun _ => m.refl s

theorem takeProcess (x : ProcessFrame) (s : State) : R s (takeProcess x s) :=
  m.ite (fun _ => m.trans (m.monitor _ s) (m.stages.setMarks _ _)) fun _ => m.trans (m.monitor _ s) (m.raise _ _)

/-! ### Management frames -/

theorem carryOut {x : MgmtFrame} {s : State} (hwrite : x.kind = .writeTable → R s (carryWriteTable x s))
    (hreset : x.kind = .resetLink → R s (linkReset x.tag s)) : R s (carryOut x s) := by
  unfold Machine.carryOut
  split
  · exact m.answer _ s
  · exact hwrite ‹_›
  · unfold carryReadTable; split <;> exact m.answer _ s
  · unfold carryOrder
    split
    · exact m.orderArrives _ _ s
    · exact m.answer _ s
  · exact m.trans (m.seen s) (m.answer _ _)
  · unfold carrySetMark
    split
    · exact m.trans (m.controller _ s) (m.answer _ _)
    · exact m.answer _ s
  · exact m.trans (m.cancelOrders s) (m.answer _ _)
  · exact m.ite (fun _ => m.trans (m.unseen _ s) (m.answer _ _)) fun _ => m.answer _ s
  · exact hreset ‹_›

end BlockMoves

/-- `R` contains what the arrival of a management frame does, whatever it makes of the responder too. -/
structure FrameMoves (R : State → State → Prop) : Prop extends BlockMoves R where
  responder : ∀ f s, R s (s.onResponder f)
  reserve : ∀ s, R s (s.onOutlet fun o => { o with reservations := o.reservations + 1 })

namespace FrameMoves
variable {R : State → State → Prop} (m : FrameMoves R)
include m

theorem serve (h : ∀ x s, R s (Machine.carryOut x s)) (n : Nat) (s : State) : R s (serve n s) := by
  induction n generalizing s with
  | zero => exact m.refl s
  | succ n ih =>
    unfold Machine.serve
    split
    · exact m.refl s
    · exact m.trans (m.responder _ s) (m.trans (h _ _) (m.trans (m.responder _ _) (ih _)))

theorem accept (x : MgmtFrame) (s : State) :
    R s ((s.onOutlet fun o => { o with reservations := o.reservations + 1 }).onResponder fun r =>
      { r with waiting := r.waiting ++ [x] }) := m.trans (m.reserve s) (m.responder _ _)

theorem acceptMgmt (h : ∀ x s, R s (Machine.carryOut x s)) (x : MgmtFrame) (s : State) : R s (acceptMgmt x s) :=
  m.ite (fun _ => m.raise _ s) fun _ => m.trans (m.accept x s) (m.serve h _ _)

/-- With no frame waiting for the responder the accepted frame is the only one carried out. -/
theorem acceptMgmt_of_idle {x : MgmtFrame} {s : State} (hidle : s.responder.waiting = [])
    (h : ∀ s, R s (Machine.carryOut x s)) : R s (Machine.acceptMgmt x s) := by
  refine m.ite (fun _ => m.raise _ s) fun _ => m.trans (m.accept x s) ?_
  simp only [hidle, List.length_nil, Machine.serve, State.onResponder_responder, State.onOutlet_responder, List.nil_append]
  exact m.trans (m.responder _ _) (m.trans (h _) (m.responder _ _))

end FrameMoves

/-- `R` contains what a command does. -/
structure CommandMoves (R : State → State → Prop) : Prop extends FrameMoves R where
  begun : ∀ b s, R s (beginPass b s)

namespace CommandMoves
variable {R : State → State → Prop} (m : CommandMoves R)
include m

/-- What a command does stays within `R`, if the management frames, the resets and the events of the outlet link do. -/
theorem happens {c : Instr} {s t : State} (h : Happens s c t)
    (hmgmt : ∀ x : MgmtFrame, x.kind ≠ .resetLink → (x.kind = .writeTable → ∃ f, c = .writeTable f) →
      R s (Machine.acceptMgmt x s))
    (hready : ∀ level, c = .readyLine level → R s (setReady level s))
    (hdone : c = .transmissionComplete → R s (transmissionDone s))
    (hpower : c = .powerOnReset → R s (powerOnReset s))
    (hlink : ∀ f tag, c = .resetLink f → R s (linkReset tag s)) : R s t := by
  cases h with
  | nothing => exact m.refl s
  | fault => exact m.fault _ _ s
  | sample f x => exact m.trans (m.offerSample f x.card s) (m.trackSample x _)
  | settle f b p => exact m.trans (m.pass p s) (m.trackSettle m.begun b _)
  | process f x => exact m.takeProcess x s
  | pass => exact m.runPass m.begun s
  | unit _ ev d => exact m.unitStep ev d s
  | ready level => exact hready level rfl
  | done => exact hdone rfl
  | mgmt _ x _ hkind hwrite => exact hmgmt x hkind hwrite
  | powerOn => exact hpower rfl
  | link f tag => exact hlink f tag rfl

end CommandMoves

end Sys2Proof.Machine

/-! # Conditions, cut state and places -/

namespace Sys2Proof.Machine

/-! ## The listing outcome (R55) -/

section
variable {t : Tick} {s : State}

theorem listingOf_of_lt {b : Tick} (hb : s.tracker.settled = some b) (ht : t < b) : listingOf t s = .late := by
  simp [listingOf, hb, ht]

/-- At or above S the room in the list decides. -/
theorem listingOf_of_settled_le (h : ∀ b, s.tracker.settled = some b → b ≤ t) :
    listingOf t s = if 64 ≤ s.assembler.arrivals.length then .unlisted else .listed := by
  unfold listingOf
  cases hb : s.tracker.settled with
  | none => rfl
  | some b =>
    simp only [Nat.not_lt.mpr (h b hb), decide_false]
    rfl

theorem listingOf_cases (t : Tick) (s : State) :
    (∃ b, s.tracker.settled = some b ∧ t < b) ∨ ∀ b, s.tracker.settled = some b → b ≤ t := by
  by_cases h : ∃ b, s.tracker.settled = some b ∧ t < b
  · exact .inl h
  · exact .inr fun b hb => Nat.not_lt.mp fun ht => h ⟨b, hb, ht⟩

theorem length_lt_of_listed (h : listingOf t s = .listed) : s.assembler.arrivals.length < 64 := by
  rcases listingOf_cases t s with ⟨b, hb, ht⟩ | hs
  · rw [listingOf_of_lt hb ht] at h
    cases h
  · rw [listingOf_of_settled_le hs] at h
    split at h
    · cases h
    · exact Nat.not_le.mp ‹_›

end

/-! ## The relations of O55 -/

/-- A clear condition is never seen, the cut goes with dense mode, and every place keeps within its size (R54, R140, R145,
R147, R166). -/
def OutletSound (s : State) : Prop := CondsSound s ∧ CutSound s ∧ PlacesSound s

namespace OutletSound
variable {s t : State}

/-- Of the outlet only the dense mode, the cut, the records and the buffer matter, and fewer of either are as good. -/
theorem mono (h : OutletSound s) (hfaults : t.faults = s.faults) (hdense : t.outlet.dense = s.outlet.dense)
    (hcut : t.outlet.cut = s.outlet.cut) (hrecords : t.outlet.records.Sublist s.outlet.records)
    (hbuffer : t.outlet.passBuffer.Sublist s.outlet.passBuffer)
    (harrivals : t.assembler.arrivals.length ≤ s.assembler.arrivals.length) : OutletSound t := by
  obtain ⟨hconds, hcutSound, hrec, hdata, hbuf, harr⟩ := h
  refine ⟨?_, ?_, hrecords.length_le.trans hrec, (hrecords.filter _).length_le.trans hdata, hbuffer.length_le.trans hbuf,
    harrivals.trans harr⟩
  · rwa [CondsSound, hfaults]
  · rwa [CutSound, hdense, hcut]

theorem chooseNext (h : OutletSound s) : OutletSound (s.onOutlet chooseNext) := by
  rcases chooseNext_cases s.outlet with ⟨r, _, e⟩ | ⟨a, as, _, _, e⟩ | ⟨r, rs, _, _, hr, e⟩ | ⟨p, ps, _, _, _, hp, e⟩ |
    ⟨_, _, _, _, e⟩
  all_goals refine h.mono rfl (by simp) (by simp) ?_ ?_ le_rfl
  all_goals simp_all

theorem arbitrate (h : OutletSound s) : OutletSound (arbitrate s) := by
  unfold Machine.arbitrate
  split
  · exact h.chooseNext
  · exact h

theorem offered (h : OutletSound s) (ho : Offered s t) : OutletSound t := by
  obtain ⟨hconds, hcut, hplaces⟩ := h
  exact ⟨ho.conds hconds, ho.cut hcut, ho.places hplaces⟩

theorem offerRecord (r : Record) (h : OutletSound s) : OutletSound (offerRecord r s) := by
  obtain ⟨u, hu, _, e⟩ := Offered.offer r s
  exact e ▸ (h.offered hu).arbitrate

theorem raise (c : Condition) (h : OutletSound s) : OutletSound (raise c s) := by
  obtain ⟨u, hu, _, e⟩ := Offered.raise c s
  exact e ▸ (h.offered hu).arbitrate

theorem answer (a : Answer) (h : OutletSound s) : OutletSound (answer a s) := arbitrate h

theorem answerEach (as : List Answer) (h : OutletSound s) : OutletSound (answerEach as s) := by
  induction as generalizing s with
  | nil => exact h
  | cons a as ih => exact ih (h.answer a)

/-- A frame joins the buffer below its size only (R147). -/
theorem offerPass (p : PassFrame) (h : OutletSound s) : OutletSound (offerPass p s) := by
  unfold Machine.offerPass
  split
  · exact h
  · split
    · exact raise _ h
    · next hroom =>
      obtain ⟨hconds, hcut, hrec, hdata, _, harr⟩ := h
      refine arbitrate ⟨hconds, hcut, hrec, hdata, ?_, harr⟩
      simp only [State.onOutlet_outlet, List.length_append, List.length_singleton, Config.passCapacity] at hroom ⊢
      omega

/-- Dense mode is left with its cut, and a cut begins in dense mode only (R150). -/
theorem settleTaken (h : OutletSound s) : OutletSound (settleTaken s) := by
  cases hdense : s.outlet.dense with
  | false => rwa [settleTaken_of_not_dense hdense]
  | true =>
    obtain ⟨hconds, -, hplaces⟩ := h
    by_cases hlow : s.outlet.records.length ≤ s.active.test.low
    · rw [settleTaken_of_fill_le_low hdense hlow]
      exact ⟨hconds, fun _ => rfl, hplaces⟩
    · rw [settleTaken_of_low_lt_fill hdense (Nat.not_le.mp hlow)]
      exact ⟨hconds, fun hoff => absurd (hdense.symm.trans hoff) (by decide), hplaces⟩

/-- Entry to HALTED empties the places before it builds its answers (R151, R165). -/
theorem enterHalted (h : OutletSound s) : OutletSound (enterHalted s) := by
  obtain ⟨hconds, hcut, -⟩ := h
  refine answerEach _ (answerEach _ ⟨hconds, hcut, ?_⟩)
  simp [PlacesSound]

theorem reportFault (code : FaultCode) (sel : Option Nat) (h : OutletSound s) : OutletSound (reportFault code sel s) := by
  unfold Machine.reportFault
  split
  · exact h
  · split
    · exact arbitrate h
    · split
      · exact h
      · exact enterHalted h

theorem insertArrival_length (x : Arrival) (l : List Arrival) : (insertArrival x l).length = l.length + 1 := by
  induction l with
  | nil => rfl
  | cons e es ih =>
    unfold insertArrival
    split
    · rfl
    · simp [ih]

/-- A LISTED arrival found fewer than 64 entries (R55). -/
theorem list {x : Arrival} (h : OutletSound s) (hl : listingOf x.tick s = .listed) :
    OutletSound (s.onAssembler fun a => { a with arrivals := insertArrival x a.arrivals }) := by
  have hroom : s.assembler.arrivals.length < 64 := length_lt_of_listed hl
  obtain ⟨hconds, hcut, hrec, hdata, hbuf, -⟩ := h
  refine ⟨hconds, hcut, hrec, hdata, hbuf, ?_⟩
  simp only [State.onAssembler_assembler, insertArrival_length]
  exact hroom

theorem notice (c : Chan) (n : Nat) (f : Arrival → Arrival) (h : OutletSound s) :
    OutletSound (s.onAssembler (applyNotice c n f)) := by
  refine h.mono rfl rfl rfl (.refl _) (.refl _) ?_
  simp only [State.onAssembler_assembler, applyNotice]
  split <;> simp

/-- The moves of a command keep the places, the cut and the flags. -/
theorem moves : CommandMoves fun s t => OutletSound s → OutletSound t where
  refl _ := id
  trans hst htu := htu ∘ hst
  offer r _ := offerRecord r
  raise c _ := raise c
  counters _ _ := id
  units _ _ := id
  draws _ _ := id
  list _ _ hl h := list h hl
  notice c n f _ _ := notice c n f
  inFlight _ _ := id
  controller _ _ := id
  tracker _ _ _ := id
  forgotten _ _ _ := id
  begun _ _ := id
  monitor _ _ := id
  active _ _ := id
  responder _ _ := id
  taken _ h := h.mono rfl rfl rfl (.refl _) (.refl _) (by simp)
  join _ _ _ _ := id
  opened _ _ _ _ := id
  free _ _ := id
  cleared _ h := h.mono rfl rfl rfl (.refl _) (.refl _) (Nat.zero_le _)
  answer a _ := answer a
  reserve _ := id
  pass p _ := offerPass p
  settled _ := settleTaken
  fault code sel _ := reportFault code sel
  seen s := fun ⟨hconds, hcut, hplaces⟩ => ⟨fun c hc => by
    simp only [State.onFaults_faults, CondSet.has_union, Bool.or_eq_true] at hc ⊢
    exact hc.elim (hconds c) id, hcut, hplaces⟩
  unseen d s := fun ⟨hconds, hcut, hplaces⟩ => ⟨fun c hc => by
    simp only [State.onFaults_faults, CondSet.has_diff, Bool.and_eq_true] at hc ⊢
    exact ⟨hconds c hc.1, hc.2⟩, hcut, hplaces⟩

/-- A part with all flags clear, dense mode off and one record in its places. -/
theorem of_reset {r : Record} (hfaults : s.faults = .initial) (hcut : s.outlet.cut = .none)
    (hrecords : s.outlet.records = [r]) (hbuffer : s.outlet.passBuffer = []) (harrivals : s.assembler.arrivals = []) :
    OutletSound s := by
  refine ⟨fun c hc => ?_, fun _ => hcut, ?_⟩
  · rw [hfaults] at hc
    cases c <;> cases hc
  · have hdata := List.length_filter_le isDataRecord [r]
    simp only [List.length_singleton] at hdata
    simp [PlacesSound, hrecords, hbuffer, harrivals]
    omega

theorem powerOnReset (s : State) : OutletSound (powerOnReset s) := by
  unfold Machine.powerOnReset
  exact arbitrate (of_reset rfl rfl rfl rfl rfl)

theorem linkReset (tag : Byte) (s : State) : OutletSound (linkReset tag s) := by
  unfold Machine.linkReset
  exact arbitrate (of_reset rfl rfl rfl rfl rfl)

theorem carryWriteTable (m : MgmtFrame) (h : OutletSound s) : OutletSound (carryWriteTable m s) := by
  unfold Machine.carryWriteTable
  split
  · exact answer _ h
  · exact answer _ h

theorem acceptMgmt (m : MgmtFrame) (h : OutletSound s) : OutletSound (acceptMgmt m s) :=
  moves.acceptMgmt (fun x _ => moves.carryOut (fun _ => carryWriteTable x) fun _ _ => linkReset _ _) m s h

theorem happens {c : Instr} (hc : Happens s c t) : OutletSound s → OutletSound t :=
  moves.happens hc (fun x _ _ => acceptMgmt x) (fun level _ => arbitrate (s := s.withReady level))
    (fun _ h => arbitrate (s := s.onOutlet fun o => { o with sending := none }) h)
    (fun _ _ => powerOnReset s) fun _ tag _ _ => linkReset tag s

end OutletSound

/-- Settles O55: every move of a command keeps the relations, `OutletSound.moves`. -/
theorem outletRelationsKept : Obligations.OutletRelationsKept :=
  fun _ _ hstep => step_keeps (P := OutletSound) (fun _ _ => id) (fun _ _ _ => OutletSound.happens) hstep

end Sys2Proof.Machine

/-! # The arrival list and the open events -/

namespace Sys2Proof.Machine

/-! ## The order of the arrival list (R54) -/

theorem arrivalLe_trans {x y z : Arrival} (h : arrivalLe x y) (g : arrivalLe y z) : arrivalLe x z := by
  rcases h with h | ⟨h, hc⟩ <;> rcases g with g | ⟨g, gc⟩
  · exact .inl (h.trans g)
  · exact .inl (g ▸ h)
  · exact .inl (h ▸ g)
  · exact .inr ⟨h.trans g, hc.trans gc⟩

theorem arrivalLe_of_precedes {x y : Arrival} (h : precedes x y = true) : arrivalLe x y := by
  simp only [precedes, Bool.or_eq_true, Bool.and_eq_true, decide_eq_true_eq, beq_iff_eq] at h
  exact h.imp id fun ⟨htick, hchan⟩ => ⟨htick, le_of_lt hchan⟩

theorem arrivalLe_of_not_precedes {x y : Arrival} (h : ¬precedes x y = true) : arrivalLe y x := by
  simp only [precedes, Bool.or_eq_true, Bool.and_eq_true, decide_eq_true_eq, beq_iff_eq, not_or, not_and, not_lt] at h
  obtain ⟨htick, hchan⟩ := h
  exact htick.lt_or_eq.imp id fun e => ⟨e, hchan e.symm⟩

/-- An insertion leaves every entry where it stands relative to the others. -/
theorem insertArrival_eq (x : Arrival) (l : List Arrival) :
    ∃ front back, l = front ++ back ∧ insertArrival x l = front ++ x :: back ∧
      (∀ y ∈ front, ¬precedes x y = true) ∧ ∀ y ∈ back.head?, precedes x y = true := by
  induction l with
  | nil => exact ⟨[], [], rfl, rfl, by simp, by simp⟩
  | cons e es ih =>
    by_cases h : precedes x e = true
    · exact ⟨[], e :: es, rfl, by rw [insertArrival, if_pos h]; rfl, by simp, by simpa using h⟩
    · obtain ⟨front, back, rfl, hinsert, hfront, hback⟩ := ih
      exact ⟨e :: front, back, rfl, by rw [insertArrival, if_neg h, hinsert]; rfl, by simpa [h] using hfront, hback⟩

/-- In an ordered list the inserted entry stands behind those it does not precede and ahead of the others. -/
theorem insertArrival_between {x : Arrival} {l : List Arrival} (h : l.Pairwise arrivalLe) :
    ∃ front back, l = front ++ back ∧ insertArrival x l = front ++ x :: back ∧
      (∀ y ∈ front, arrivalLe y x) ∧ ∀ y ∈ back, arrivalLe x y := by
  obtain ⟨front, back, rfl, hinsert, hfront, hback⟩ := insertArrival_eq x l
  refine ⟨front, back, rfl, hinsert, fun y hy => arrivalLe_of_not_precedes (hfront y hy), ?_⟩
  cases back with
  | nil => simp
  | cons e es =>
    have hxe : arrivalLe x e := arrivalLe_of_precedes (hback e rfl)
    obtain ⟨-, hes, -⟩ := List.pairwise_append.mp h
    rintro y (_ | ⟨_, hy⟩)
    · exact hxe
    · exact arrivalLe_trans hxe (List.rel_of_pairwise_cons hes hy)

theorem pairwise_insertArrival {x : Arrival} {l : List Arrival} (h : l.Pairwise arrivalLe) :
    (insertArrival x l).Pairwise arrivalLe := by
  obtain ⟨front, back, rfl, hinsert, hfront, hback⟩ := insertArrival_between (x := x) h
  obtain ⟨hf, hb, hcross⟩ := List.pairwise_append.mp h
  rw [hinsert, List.pairwise_append, List.pairwise_cons]
  refine ⟨hf, ⟨hback, hb⟩, ?_⟩
  rintro y hy z (_ | ⟨_, hz⟩)
  · exact hfront y hy
  · exact hcross y hy z hz

/-! ## The candidate of an arrival (R62) -/

theorem isCandidate_iff {x : Arrival} {e : Event} :
    isCandidate x e = true ↔ e.first ≤ x.tick ∧ x.tick ≤ e.first + e.window ∧ (∀ m ∈ e.members, m.chan ≠ x.chan) ∧
      e.members.length < 8 := by
  simp only [isCandidate, Bool.and_eq_true, decide_eq_true_eq, and_assoc, Bool.not_eq_true',
    List.any_eq_false, beq_iff_eq, ne_eq]
  rfl

/-- The event in slot `i` can receive the arrival. -/
def CandidateAt (x : Arrival) (slots : Vector (Option Event) 8) (i : Fin 8) (e : Event) : Prop :=
  slots[i] = some e ∧ isCandidate x e = true

/-- `best` is the candidate of the earliest first tick among the slots of `l`, the lowest at equal ticks. -/
def BestOf (x : Arrival) (slots : Vector (Option Event) 8) (l : List (Fin 8)) (best : Option (Fin 8 × Tick)) : Prop :=
  (best = none ∧ ∀ i ∈ l, ∀ e, ¬CandidateAt x slots i e) ∨
  ∃ i e, best = some (i, e.first) ∧ i ∈ l ∧ CandidateAt x slots i e ∧
    ∀ j ∈ l, ∀ d, CandidateAt x slots j d → e.first < d.first ∨ (e.first = d.first ∧ i ≤ j)

section
variable {x : Arrival} {slots : Vector (Option Event) 8}

/-- A slot whose event cannot receive the arrival does not compete. -/
theorem betterSlot_of_not_candidate {best : Option (Fin 8 × Tick)} {i : Fin 8} (h : ∀ e, ¬CandidateAt x slots i e) :
    betterSlot x slots best i = best := by
  unfold betterSlot
  split
  · rfl
  · next e he => rw [if_neg fun hc => h e ⟨he, hc⟩]

theorem betterSlot_of_candidate {best : Option (Fin 8 × Tick)} {i : Fin 8} {e : Event} (h : CandidateAt x slots i e) :
    betterSlot x slots best i =
      match best with
      | none => some (i, e.first)
      | some (j, f) => if e.first < f then some (i, e.first) else some (j, f) := by
  obtain ⟨he, hc⟩ := h
  cases best with
  | none => simp [betterSlot, he, hc]
  | some best => simp [betterSlot, he, hc]

theorem CandidateAt.eq {i : Fin 8} {e d : Event} (h : CandidateAt x slots i e) (g : CandidateAt x slots i d) : e = d :=
  Option.some.inj (h.1.symm.trans g.1)

theorem bestOf_append {l : List (Fin 8)} {best : Option (Fin 8 × Tick)} {i : Fin 8} (h : BestOf x slots l best)
    (hlast : ∀ j ∈ l, j < i) : BestOf x slots (l ++ [i]) (betterSlot x slots best i) := by
  by_cases hi : ∃ d, CandidateAt x slots i d
  · obtain ⟨d, hd⟩ := hi
    rw [betterSlot_of_candidate hd]
    rcases h with ⟨rfl, hnone⟩ | ⟨j, e, rfl, hj, he, hbest⟩
    · refine .inr ⟨i, d, rfl, by simp, hd, fun k hk f hf => ?_⟩
      rcases List.mem_append.mp hk with hk | hk
      · exact absurd hf (hnone k hk f)
      · obtain rfl := List.mem_singleton.mp hk
        exact .inr ⟨congrArg Event.first (hd.eq hf), le_rfl⟩
    · by_cases hlt : d.first < e.first
      · refine .inr ⟨i, d, if_pos hlt, by simp, hd, fun k hk f hf => ?_⟩
        rcases List.mem_append.mp hk with hk | hk
        · have := hbest k hk f hf
          exact .inl (by simp only [Tick] at *; omega)
        · obtain rfl := List.mem_singleton.mp hk
          exact .inr ⟨congrArg Event.first (hd.eq hf), le_rfl⟩
      · refine .inr ⟨j, e, if_neg hlt, by simp [hj], he, fun k hk f hf => ?_⟩
        rcases List.mem_append.mp hk with hk | hk
        · exact hbest k hk f hf
        · obtain rfl := List.mem_singleton.mp hk
          obtain rfl := hd.eq hf
          have hjk := hlast j hj
          simp only [Tick] at *
          omega
  · have hi : ∀ d, ¬CandidateAt x slots i d := not_exists.mp hi
    rw [betterSlot_of_not_candidate hi]
    have out (k : Fin 8) (hk : k ∈ l ++ [i]) (d : Event) (hd : CandidateAt x slots k d) : k ∈ l := by
      rcases List.mem_append.mp hk with hk | hk
      · exact hk
      · exact absurd (List.mem_singleton.mp hk ▸ hd) (hi d)
    rcases h with ⟨rfl, hnone⟩ | ⟨j, e, rfl, hj, he, hbest⟩
    · exact .inl ⟨rfl, fun k hk d hd => hnone k (out k hk d hd) d hd⟩
    · exact .inr ⟨j, e, rfl, by simp [hj], he, fun k hk d hd => hbest k (out k hk d hd) d hd⟩

theorem bestOf_foldl (l : List (Fin 8)) (h : l.Pairwise (· < ·)) : BestOf x slots l (l.foldl (betterSlot x slots) none) := by
  induction l using List.reverseRecOn with
  | nil => exact .inl ⟨rfl, by simp⟩
  | append_singleton l i ih =>
    obtain ⟨hl, -, hlast⟩ := List.pairwise_append.mp h
    rw [List.foldl_append]
    exact bestOf_append (ih hl) fun j hj => hlast j hj i (List.mem_singleton_self i)

theorem bestOf_allSlots : BestOf x slots allSlots (allSlots.foldl (betterSlot x slots) none) :=
  bestOf_foldl allSlots (by decide)

/-- The arrival joins the candidate of the earliest first tick, the lowest slot at equal ticks (R62). -/
theorem candidateSlot_eq_some_iff {i : Fin 8} :
    candidateSlot x slots = some i ↔ ∃ e, CandidateAt x slots i e ∧
      ∀ j d, CandidateAt x slots j d → e.first < d.first ∨ (e.first = d.first ∧ i ≤ j) := by
  rcases bestOf_allSlots (x := x) (slots := slots) with ⟨hnone, hno⟩ | ⟨j, d, hsome, -, hd, hbest⟩
  · rw [candidateSlot, hnone]
    refine ⟨fun h => (by cases h), fun ⟨e, he, _⟩ => absurd he (hno i (mem_allSlots i) e)⟩
  · rw [candidateSlot, hsome, Option.map_some, Option.some_inj]
    have hbest (k : Fin 8) := hbest k (mem_allSlots k)
    constructor
    · rintro rfl
      exact ⟨d, hd, hbest⟩
    · rintro ⟨e, he, hmin⟩
      have h1 := hmin j d hd
      have h2 := hbest i e he
      simp only [Tick] at *
      omega

theorem candidateSlot_eq_none_iff : candidateSlot x slots = none ↔ ∀ i e, ¬CandidateAt x slots i e := by
  rcases bestOf_allSlots (x := x) (slots := slots) with ⟨hnone, hno⟩ | ⟨j, d, hsome, -, hd, hbest⟩
  · rw [candidateSlot, hnone]
    exact ⟨fun _ i => hno i (mem_allSlots i), fun _ => rfl⟩
  · rw [candidateSlot, hsome]
    exact ⟨fun h => (by cases h), fun h => absurd hd (h j d)⟩

end

/-! ## The relations of O58 -/

/-- The arrival list is in order, and every open event has the shape of R60 and R62. -/
def AssemblySound (s : State) : Prop := ArrivalsSound s ∧ EventsSound s

/-- An event with its members marked, their ticks and channels left. -/
theorem eventSound_map {e : Event} {f : Arrival → Arrival} (h : eventSound e)
    (hf : ∀ x, (f x).tick = x.tick ∧ (f x).chan = x.chan) : eventSound { e with members := e.members.map f } := by
  have htick (l : List Arrival) : (l.map f).head?.map (·.tick) = l.head?.map (·.tick) := by
    cases l <;> simp [hf]
  have hchan : (fun x => (f x).chan) = Arrival.chan := funext fun x => (hf x).2
  obtain ⟨h1, h8, hchans, hfirst, hwindow⟩ := h
  refine ⟨by simpa using h1, by simpa using h8, ?_, (htick _).trans hfirst, fun m hm => ?_⟩
  · simpa [List.map_map, Function.comp_def, hchan] using hchans
  · obtain ⟨x, hx, rfl⟩ := List.mem_map.mp hm
    simpa [hf] using hwindow x hx

/-- An event that has received a candidate. -/
theorem eventSound_join {e : Event} {x : Arrival} (h : eventSound e) (hc : isCandidate x e = true) :
    eventSound { e with members := e.members ++ [x] } := by
  obtain ⟨hfirst, hlast, hnew, hroom⟩ := isCandidate_iff.mp hc
  obtain ⟨h1, h8, hchans, hhead, hwindow⟩ := h
  refine ⟨by simp, by simpa using hroom, ?_, ?_, fun m hm => ?_⟩
  · simp only [List.map_append, List.map_cons, List.map_nil]
    refine List.nodup_append.mpr ⟨hchans, by simp, ?_⟩
    rintro a ha b hb rfl
    obtain ⟨m, hm, hchan⟩ := List.mem_map.mp ha
    exact hnew m hm (hchan.trans (List.mem_singleton.mp hb))
  · cases hm : e.members with
    | nil => simp [hm] at h1
    | cons m ms => simpa [hm] using hhead
  · rcases List.mem_append.mp hm with hm | hm
    · exact hwindow m hm
    · obtain rfl := List.mem_singleton.mp hm
      exact ⟨hfirst, hlast⟩

theorem eventSound_opened (x : Arrival) (n : Nat) (t : TestTable) : eventSound (openedEvent x n t) := by
  refine ⟨le_rfl, by simp [openedEvent], by simp [openedEvent], rfl, fun m hm => ?_⟩
  obtain rfl := List.mem_singleton.mp hm
  exact ⟨le_rfl, Nat.le_add_right _ _⟩

theorem atPair_keeps {c : Chan} {n : Nat} {f : Arrival → Arrival} (hf : ∀ x, (f x).tick = x.tick ∧ (f x).chan = x.chan)
    (x : Arrival) : (atPair c n f x).tick = x.tick ∧ (atPair c n f x).chan = x.chan := by
  unfold atPair
  split
  · exact hf x
  · exact ⟨rfl, rfl⟩

namespace AssemblySound
variable {s t : State}

theorem congr (h : AssemblySound s) (e : t.assembler = s.assembler) : AssemblySound t := by
  unfold AssemblySound ArrivalsSound EventsSound
  rw [e]
  exact h

theorem reported (h : Reported s t) (hs : AssemblySound s) : AssemblySound t := hs.congr h.assembler

/-- The slot `i` takes an event that is sound, or none. -/
theorem setSlot {i : Fin 8} {slot : Option Event} (h : AssemblySound s) (hslot : ∀ e, slot = some e → eventSound e)
    (ha : t.assembler.arrivals = s.assembler.arrivals) (hslots : t.assembler.slots = s.assembler.slots.set i slot) :
    AssemblySound t := by
  obtain ⟨harrivals, hevents⟩ := h
  refine ⟨by rwa [ArrivalsSound, ha], fun j e he => ?_⟩
  rw [hslots, Fin.getElem_fin, Vector.getElem_set] at he
  split at he
  · exact hslot e he
  · exact hevents j e he

theorem notice (c : Chan) (n : Nat) (f : Arrival → Arrival) (hf : ∀ x, (f x).tick = x.tick ∧ (f x).chan = x.chan)
    (h : AssemblySound s) : AssemblySound (s.onAssembler (applyNotice c n f)) := by
  have hkeeps := atPair_keeps (c := c) (n := n) hf
  obtain ⟨harrivals, hevents⟩ := h
  unfold AssemblySound ArrivalsSound EventsSound
  rw [State.onAssembler_assembler, applyNotice]
  split
  · refine ⟨?_, hevents⟩
    exact List.pairwise_map.mpr (harrivals.imp fun h => by simpa only [arrivalLe, hkeeps] using h)
  · refine ⟨harrivals, fun i e he => ?_⟩
    simp only [Fin.getElem_fin, mapVec_getElem, Option.map_eq_some_iff] at he
    obtain ⟨d, hd, rfl⟩ := he
    exact eventSound_map (hevents i d hd) hkeeps

theorem of_empty (ha : s.assembler.arrivals = []) (hslots : s.assembler.slots = Vector.replicate 8 none) :
    AssemblySound s := by
  refine ⟨by rw [ArrivalsSound, ha]; exact .nil, fun i e he => ?_⟩
  rw [hslots] at he
  simp at he

theorem reportFault (code : FaultCode) (sel : Option Nat) (h : AssemblySound s) :
    AssemblySound (reportFault code sel s) := by
  unfold Machine.reportFault
  split
  · exact h
  · split
    · exact h.congr (arbitrate_assembler _)
    · split
      · exact h
      · exact of_empty (by simp) (by simp)

/-- The moves of a command keep the list and the events. -/
theorem moves : CommandMoves fun s t => AssemblySound s → AssemblySound t where
  refl _ := id
  trans hst htu := htu ∘ hst
  offer r s := reported (.offerRecord r s)
  raise c s := reported (.raise c s)
  counters _ _ := id
  units _ _ := id
  draws _ _ := id
  list _ _ _ := fun ⟨harrivals, hevents⟩ => ⟨pairwise_insertArrival harrivals, hevents⟩
  notice c n f _ hf := notice c n f hf
  inFlight _ _ := id
  controller _ _ := id
  tracker _ _ _ := id
  forgotten _ _ _ := id
  begun _ _ := id
  monitor _ _ := id
  active _ _ := id
  responder _ _ := id
  taken _ := fun ⟨harrivals, hevents⟩ => ⟨harrivals.tail, hevents⟩
  join x i s hi h := by
    obtain ⟨e, ⟨he, hc⟩, -⟩ := candidateSlot_eq_some_iff.mp hi
    refine h.setSlot (i := i) (fun d hd => ?_) rfl rfl
    rw [he, Option.map_some] at hd
    cases hd
    exact eventSound_join (h.2 i e he) hc
  opened x i n s h := h.setSlot (i := i) (fun e he => by cases he; exact eventSound_opened ..) rfl rfl
  free i s h := h.setSlot (i := i) (fun _ he => by cases he) rfl rfl
  cleared _ _ := of_empty rfl rfl
  answer a s := reported (.answer a s)
  reserve _ := id
  pass p s := reported (.offerPass p s)
  settled s := reported (.settleTaken s)
  fault code sel _ := reportFault code sel
  seen _ := id
  unseen _ _ := id

theorem linkReset (tag : Byte) (s : State) : AssemblySound (linkReset tag s) :=
  of_empty (congrArg Assembler.arrivals (arbitrate_assembler _)) (congrArg Assembler.slots (arbitrate_assembler _))

theorem powerOnReset (s : State) : AssemblySound (powerOnReset s) :=
  of_empty (congrArg Assembler.arrivals (arbitrate_assembler _)) (congrArg Assembler.slots (arbitrate_assembler _))

theorem carryWriteTable (m : MgmtFrame) (h : AssemblySound s) : AssemblySound (carryWriteTable m s) := by
  unfold Machine.carryWriteTable
  split
  · exact reported (.answer _ _) (s := s.onStaged _) h
  · exact reported (.answer _ s) h

theorem acceptMgmt (m : MgmtFrame) (h : AssemblySound s) : AssemblySound (acceptMgmt m s) :=
  moves.acceptMgmt (fun x _ => moves.carryOut (fun _ => carryWriteTable x) fun _ _ => linkReset _ _) m s h

theorem happens {c : Instr} (hc : Happens s c t) : AssemblySound s → AssemblySound t :=
  moves.happens hc (fun x _ _ => acceptMgmt x) (fun level _ h => h.congr (arbitrate_assembler (s.withReady level)))
    (fun _ h => h.congr (arbitrate_assembler (s.onOutlet _))) (fun _ _ => powerOnReset s) fun _ tag _ _ => linkReset tag s

end AssemblySound

/-- Settles O58: an insertion goes between the entries it does not precede and the others, and a member joins as a
candidate only. -/
theorem assemblyRelationsKept : Obligations.AssemblyRelationsKept :=
  fun _ _ hstep => step_keeps (P := AssemblySound) (fun _ _ => id) (fun _ _ _ => AssemblySound.happens) hstep

end Sys2Proof.Machine

/-! # What every command leaves -/

namespace Sys2Proof.Machine

/-! ## The queue of commands and the ready line -/

/-- The queue of commands and the ready line are as they were. -/
def LineKept (s t : State) : Prop := t.pending = s.pending ∧ t.ready = s.ready

theorem LineKept.of_reported {s t : State} (h : Reported s t) : LineKept s t := ⟨h.pending, h.ready⟩

theorem LineKept.reportFault (code : FaultCode) (sel : Option Nat) (s : State) : LineKept s (reportFault code sel s) := by
  unfold Machine.reportFault
  split
  · exact ⟨rfl, rfl⟩
  · split
    · exact of_reported ((Reported.onOutlet s _).trans (.arbitrate _))
    · split
      · exact ⟨rfl, rfl⟩
      · exact ⟨enterHalted_pending _, enterHalted_ready _⟩

theorem LineKept.moves : CommandMoves LineKept where
  refl _ := ⟨rfl, rfl⟩
  trans h g := ⟨g.1.trans h.1, g.2.trans h.2⟩
  offer r s := of_reported (.offerRecord r s)
  raise c s := of_reported (.raise c s)
  counters _ _ := ⟨rfl, rfl⟩
  units _ _ := ⟨rfl, rfl⟩
  draws _ _ := ⟨rfl, rfl⟩
  list _ _ _ := ⟨rfl, rfl⟩
  notice _ _ _ _ _ := ⟨rfl, rfl⟩
  inFlight _ _ := ⟨rfl, rfl⟩
  controller _ _ := ⟨rfl, rfl⟩
  tracker _ _ _ := ⟨rfl, rfl⟩
  forgotten _ _ _ := ⟨rfl, rfl⟩
  begun _ _ := ⟨rfl, rfl⟩
  monitor _ _ := ⟨rfl, rfl⟩
  active _ _ := ⟨rfl, rfl⟩
  responder _ _ := ⟨rfl, rfl⟩
  taken _ := ⟨rfl, rfl⟩
  join _ _ _ _ := ⟨rfl, rfl⟩
  opened _ _ _ _ := ⟨rfl, rfl⟩
  free _ _ := ⟨rfl, rfl⟩
  cleared _ := ⟨rfl, rfl⟩
  answer a s := of_reported (.answer a s)
  reserve _ := ⟨rfl, rfl⟩
  pass p s := of_reported (.offerPass p s)
  settled s := of_reported (.settleTaken s)
  fault := reportFault
  seen _ := ⟨rfl, rfl⟩
  unseen _ _ := ⟨rfl, rfl⟩

theorem LineKept.linkReset (tag : Byte) (s : State) : LineKept s (linkReset tag s) :=
  ⟨arbitrate_pending _, arbitrate_ready _⟩

theorem LineKept.carryOut (m : MgmtFrame) (s : State) : LineKept s (carryOut m s) := by
  refine moves.carryOut (fun _ => ?_) fun _ => linkReset m.tag s
  unfold carryWriteTable
  split
  · exact moves.trans (t := s.onStaged _) ⟨rfl, rfl⟩ (moves.answer _ _)
  · exact of_reported (.answer _ s)

theorem transmissionDone_reported (s : State) : Reported s (transmissionDone s) := (Reported.onOutlet s _).trans (.arbitrate _)

/-- Settles O2: the queue stays under every move, and the ready line under every command but its own. -/
theorem everyCommandCompletes : Obligations.EveryCommandCompletes := by
  intro c s
  obtain ⟨t, ht, happens⟩ := exec_happens c s
  by_cases hc : ∃ level, c = .readyLine level
  · obtain ⟨level, rfl⟩ := hc
    exact ⟨setReady level s, rfl, arbitrate_pending _, fun h => absurd rfl (h level)⟩
  · have hkept : LineKept s t := LineKept.moves.happens happens
      (fun x _ _ => LineKept.moves.acceptMgmt LineKept.carryOut x s)
      (fun level hlevel => absurd ⟨level, hlevel⟩ hc) (fun _ => LineKept.of_reported (transmissionDone_reported s))
      (fun _ => ⟨arbitrate_pending _, arbitrate_ready _⟩) fun _ tag _ => LineKept.linkReset tag s
    exact ⟨t, ht, hkept.1, fun _ => hkept.2⟩

/-- Settles O1: by the definition of a step. -/
theorem stepTakesFrontCommand : Obligations.StepTakesFrontCommand :=
  ⟨fun c rest s h => by rw [step, h], fun s h => by rw [step, h]⟩

/-! ## HALTED -/

/-- HALTED stays. -/
def HaltedKept (s t : State) : Prop := s.faults.halted = true → t.faults.halted = true

theorem HaltedKept.of_reported {s t : State} (h : Reported s t) : HaltedKept s t := h.halted.trans

theorem HaltedKept.reportFault (code : FaultCode) (sel : Option Nat) (s : State) :
    HaltedKept s (reportFault code sel s) := fun h => by rwa [reportFault_halted h]

theorem HaltedKept.moves : CommandMoves HaltedKept where
  refl _ := id
  trans h g := g ∘ h
  offer r s := of_reported (.offerRecord r s)
  raise c s := of_reported (.raise c s)
  counters _ _ := id
  units _ _ := id
  draws _ _ := id
  list _ _ _ := id
  notice _ _ _ _ _ := id
  inFlight _ _ := id
  controller _ _ := id
  tracker _ _ _ := id
  forgotten _ _ _ := id
  begun _ _ := id
  monitor _ _ := id
  active _ _ := id
  responder _ _ := id
  taken _ := id
  join _ _ _ _ := id
  opened _ _ _ _ := id
  free _ _ := id
  cleared _ := id
  answer a s := of_reported (.answer a s)
  reserve _ := id
  pass p s := of_reported (.offerPass p s)
  settled s := of_reported (.settleTaken s)
  fault := reportFault
  seen _ := id
  unseen _ _ := id

theorem receive_halted {α : Type} {kind : Byte} {f : Frame} {parse : List Byte → Option α} {handOn : α → State → State}
    {s : State} (h : s.faults.halted = true) : receive kind f parse handOn s = s := if_pos h

/-- In HALTED a frame other than RESET-LINK is discarded before any check (R161). -/
theorem exec_frame_halted {c : Instr} {kf : Byte × Frame} {s : State} (hf : commandFrame c = some kf)
    (hc : ∀ g, c ≠ .resetLink g) (hs : s.faults.halted = true) : exec c s = .next s := by
  cases hm : mgmtCommand c with
  | some kf => exact (exec_of_mgmtCommand hm s).trans (congrArg Host.Outcome.next (receive_halted hs))
  | none =>
    cases c with
    | sample f | settle f | process f | unknownKind k f => exact congrArg Host.Outcome.next (receive_halted hs)
    | resetLink f => exact absurd rfl (hc f)
    | powerOnReset | settlePass | normalEnd | longEnd | rearmEnd | readyLine | transmissionComplete => cases hf
    | _ => cases hm

/-- Settles O5: no move but a reset clears the halted flag, and a RESET-LINK is carried out only when its check holds. -/
theorem haltedUntilReset : Obligations.HaltedUntilReset := by
  refine ⟨fun c k f s hf hc hs => exec_frame_halted hf hc hs, fun c s t ht hs hleft => ?_⟩
  have left (h : HaltedKept s t) : False := Bool.false_ne_true (hleft.symm.trans (h hs))
  have run (h : s.faults.halted = false) : False := Bool.false_ne_true (h.symm.trans hs)
  cases happens_of_exec ht with
  | powerOn => exact .inl rfl
  | link f tag check => exact .inr ⟨f, rfl, check⟩
  | nothing => exact (left (HaltedKept.moves.refl s)).elim
  | fault _ _ _ hrun | sample _ _ hrun | settle _ _ _ hrun | mgmt _ _ hrun => exact (run hrun).elim
  | process f x => exact (left (HaltedKept.moves.takeProcess x s)).elim
  | pass => exact (left (HaltedKept.moves.runPass HaltedKept.moves.begun s)).elim
  | unit _ ev d => exact (left (HaltedKept.moves.unitStep ev d s)).elim
  | ready level => exact (left (HaltedKept.of_reported (s := s.withReady level) (.arbitrate _))).elim
  | done => exact (left (HaltedKept.of_reported (transmissionDone_reported s))).elim

/-! ## The staged copies -/

/-- The staged copies are as they were. -/
def StagedKept (s t : State) : Prop := t.staged = s.staged

theorem StagedKept.reportFault (code : FaultCode) (sel : Option Nat) (s : State) :
    StagedKept s (reportFault code sel s) := by
  unfold Machine.reportFault
  split
  · rfl
  · split
    · exact arbitrate_staged _
    · split
      · rfl
      · exact enterHalted_staged _

theorem StagedKept.moves : CommandMoves StagedKept where
  refl _ := rfl
  trans h g := Eq.trans g h
  offer r s := offerRecord_staged r s
  raise c s := raise_staged c s
  counters _ _ := rfl
  units _ _ := rfl
  draws _ _ := rfl
  list _ _ _ := rfl
  notice _ _ _ _ _ := rfl
  inFlight _ _ := rfl
  controller _ _ := rfl
  tracker _ _ _ := rfl
  forgotten _ _ _ := rfl
  begun _ _ := rfl
  monitor _ _ := rfl
  active _ _ := rfl
  responder _ _ := rfl
  taken _ := rfl
  join _ _ _ _ := rfl
  opened _ _ _ _ := rfl
  free _ _ := rfl
  cleared _ := rfl
  answer a s := answer_staged a s
  reserve _ := rfl
  pass p s := offerPass_staged p s
  settled s := settleTaken_staged s
  fault := reportFault
  seen _ := rfl
  unseen _ _ := rfl

/-- Settles O8: every move but a write leaves the staged copies, and a link reset keeps them. -/
theorem stagedCopyChangedOnlyByWrite : Obligations.StagedCopyChangedOnlyByWrite := by
  intro c s t ht hidle hchanged
  by_contra hc
  obtain ⟨hpower, hwrite⟩ := not_or.mp hc
  refine hchanged (StagedKept.moves.happens (happens_of_exec ht) (fun x hkind hx => ?_) (fun level _ => ?_) (fun _ => ?_)
    (fun h => absurd h hpower) fun _ tag _ => arbitrate_staged _)
  · exact StagedKept.moves.acceptMgmt_of_idle hidle fun s =>
      StagedKept.moves.carryOut (fun h => absurd (hx h) hwrite) fun h => absurd h hkind
  · exact arbitrate_staged _
  · exact arbitrate_staged _

/-! ## The answers built and not yet sent -/

/-- The answers built and not yet sent stay, in order, at the front (R144). -/
def TrailKept (s t : State) : Prop := answerTrail s.outlet <+: answerTrail t.outlet

theorem TrailKept.of_eq {s t : State} (h : answerTrail t.outlet = answerTrail s.outlet) : TrailKept s t := by
  unfold TrailKept
  rw [h]

theorem TrailKept.answer (a : Answer) (s : State) : TrailKept s (answer a s) := ⟨[a], (answerTrail_answer a s).symm⟩

theorem TrailKept.reportFault (code : FaultCode) (sel : Option Nat) (s : State) : TrailKept s (reportFault code sel s) := by
  unfold Machine.reportFault
  split
  · exact of_eq rfl
  · split
    · exact of_eq (answerTrail_arbitrate _)
    · split
      · exact of_eq rfl
      · rw [TrailKept, answerTrail_enterHalted, List.append_assoc]
        exact List.prefix_append _ _

@[simp] theorem answerTrail_offerPass (p : PassFrame) (s : State) :
    answerTrail (offerPass p s).outlet = answerTrail s.outlet := by
  unfold offerPass
  split
  · rfl
  · split
    · exact answerTrail_raise _ _
    · exact answerTrail_arbitrate _

@[simp] theorem answerTrail_settleTaken (s : State) : answerTrail (settleTaken s).outlet = answerTrail s.outlet := by
  unfold settleTaken
  rw [State.onOutlet_outlet]
  split_ifs <;> rfl

theorem TrailKept.moves : CommandMoves TrailKept where
  refl _ := List.prefix_rfl
  trans := List.IsPrefix.trans
  offer r s := of_eq (answerTrail_offerRecord r s)
  raise c s := of_eq (answerTrail_raise c s)
  counters _ _ := of_eq rfl
  units _ _ := of_eq rfl
  draws _ _ := of_eq rfl
  list _ _ _ := of_eq rfl
  notice _ _ _ _ _ := of_eq rfl
  inFlight _ _ := of_eq rfl
  controller _ _ := of_eq rfl
  tracker _ _ _ := of_eq rfl
  forgotten _ _ _ := of_eq rfl
  begun _ _ := of_eq rfl
  monitor _ _ := of_eq rfl
  active _ _ := of_eq rfl
  responder _ _ := of_eq rfl
  taken _ := of_eq rfl
  join _ _ _ _ := of_eq rfl
  opened _ _ _ _ := of_eq rfl
  free _ _ := of_eq rfl
  cleared _ := of_eq rfl
  answer := answer
  reserve _ := of_eq rfl
  pass p s := of_eq (answerTrail_offerPass p s)
  settled s := of_eq (answerTrail_settleTaken s)
  fault := reportFault
  seen _ := of_eq rfl
  unseen _ _ := of_eq rfl

theorem TrailKept.carryWriteTable (m : MgmtFrame) (s : State) : TrailKept s (carryWriteTable m s) := by
  unfold Machine.carryWriteTable
  split
  · exact answer _ (s.onStaged _)
  · exact answer _ s

/-- The last byte of an answer has gone: the others are those of the queue. -/
theorem answerTrail_transmissionDone (s : State) : answerTrail (transmissionDone s).outlet = s.outlet.answers :=
  answerTrail_arbitrate _

/-- Settles O9: answers only join the trail behind, but when the frame in transmission has gone. -/
theorem answersNeverDropped : Obligations.AnswersNeverDropped := by
  intro c s t ht hidle hpower hlink
  have happens := happens_of_exec ht
  refine ⟨fun hdone => ?_, fun hdone => ?_⟩
  · refine TrailKept.moves.happens happens (fun x hkind _ => ?_) (fun level _ => ?_) (fun h => absurd h hdone)
      (fun h => absurd h hpower) fun f _ h => absurd h (hlink f)
    · exact TrailKept.moves.acceptMgmt_of_idle hidle fun s =>
        TrailKept.moves.carryOut (fun _ => TrailKept.carryWriteTable x s) fun h => absurd h hkind
    · exact .of_eq (answerTrail_arbitrate (s.withReady level))
  · subst hdone
    cases ht
    rw [answerTrail_transmissionDone]

end Sys2Proof.Machine

/-! # How far the blocks reach -/

namespace Sys2Proof.Machine

/-! ## The reach of the channel units -/

/-- `t` is `s` but for the units, the assembler, the count of free values and what a report reaches. -/
structure UnitReach (s t : State) : Prop where
  tracker : t.tracker = s.tracker
  controller : ∃ k m0 m1, t.controller = { s.controller with counters := k, mark0 := m0, mark1 := m1 }
  monitor : t.monitor = s.monitor
  staged : t.staged = s.staged
  active : t.active = s.active
  responder : t.responder = s.responder
  halted : t.faults.halted = s.faults.halted

namespace UnitReach
variable {s t : State}

theorem refl (s : State) : UnitReach s s := ⟨rfl, ⟨_, _, _, rfl⟩, rfl, rfl, rfl, rfl, rfl⟩

theorem of_reported (h : Reported s t) : UnitReach s t :=
  ⟨h.tracker, h.controller, h.monitor, h.staged, h.active, h.responder, h.halted⟩

theorem trans {u : State} (h : UnitReach s t) (g : UnitReach t u) : UnitReach s u := by
  obtain ⟨k, m0, m1, hc⟩ := h.controller
  obtain ⟨k', m0', m1', gc⟩ := g.controller
  exact ⟨g.tracker.trans h.tracker, ⟨k', m0', m1', by rw [gc, hc]⟩, g.monitor.trans h.monitor, g.staged.trans h.staged,
    g.active.trans h.active, g.responder.trans h.responder, g.halted.trans h.halted⟩

theorem moves : UnitMoves UnitReach where
  refl := refl
  trans := trans
  offer r s := of_reported (.offerRecord r s)
  raise c s := of_reported (.raise c s)
  counters f s := of_reported (.onCounters f s)
  units _ _ := ⟨rfl, ⟨_, _, _, rfl⟩, rfl, rfl, rfl, rfl, rfl⟩
  draws _ _ := ⟨rfl, ⟨_, _, _, rfl⟩, rfl, rfl, rfl, rfl, rfl⟩
  list _ _ _ := ⟨rfl, ⟨_, _, _, rfl⟩, rfl, rfl, rfl, rfl, rfl⟩
  notice _ _ _ _ _ := ⟨rfl, ⟨_, _, _, rfl⟩, rfl, rfl, rfl, rfl, rfl⟩
  inFlight _ _ := ⟨rfl, ⟨_, _, _, rfl⟩, rfl, rfl, rfl, rfl, rfl⟩

/-- The units aside, the controller's fields stand but for counters and marks. -/
theorem phase (h : UnitReach s t) : t.controller.phase = s.controller.phase := by
  obtain ⟨k, m0, m1, e⟩ := h.controller; rw [e]
theorem mutedFrom (h : UnitReach s t) : t.controller.mutedFrom = s.controller.mutedFrom := by
  obtain ⟨k, m0, m1, e⟩ := h.controller; rw [e]
theorem queue (h : UnitReach s t) : t.controller.queue = s.controller.queue := by
  obtain ⟨k, m0, m1, e⟩ := h.controller; rw [e]
theorem stalled (h : UnitReach s t) : t.controller.stalled = s.controller.stalled := by
  obtain ⟨k, m0, m1, e⟩ := h.controller; rw [e]
theorem phaseEvents (h : UnitReach s t) : t.controller.phaseEvents = s.controller.phaseEvents := by
  obtain ⟨k, m0, m1, e⟩ := h.controller; rw [e]
theorem ruptured (h : UnitReach s t) : t.controller.ruptured = s.controller.ruptured := by
  obtain ⟨k, m0, m1, e⟩ := h.controller; rw [e]
theorem ramp (h : UnitReach s t) : t.controller.ramp = s.controller.ramp := by
  obtain ⟨k, m0, m1, e⟩ := h.controller; rw [e]
theorem hold (h : UnitReach s t) : t.controller.hold = s.controller.hold := by
  obtain ⟨k, m0, m1, e⟩ := h.controller; rw [e]

end UnitReach

/-! ## The reach of the stages of a pass -/

/-- `t` is `s` in every block that neither stage of a pass touches, and in the order queue. -/
structure StageReach (s t : State) : Prop where
  tracker : t.tracker = s.tracker
  monitor : t.monitor = s.monitor
  staged : t.staged = s.staged
  active : t.active = s.active
  responder : t.responder = s.responder
  halted : t.faults.halted = s.faults.halted
  queue : t.controller.queue = s.controller.queue
  stalled : t.controller.stalled = s.controller.stalled

namespace StageReach
variable {s t : State}

theorem refl (s : State) : StageReach s s := ⟨rfl, rfl, rfl, rfl, rfl, rfl, rfl, rfl⟩

theorem trans {u : State} (h : StageReach s t) (g : StageReach t u) : StageReach s u :=
  ⟨g.tracker.trans h.tracker, g.monitor.trans h.monitor, g.staged.trans h.staged, g.active.trans h.active,
    g.responder.trans h.responder, g.halted.trans h.halted, g.queue.trans h.queue, g.stalled.trans h.stalled⟩

theorem of_unitReach (h : UnitReach s t) : StageReach s t :=
  ⟨h.tracker, h.monitor, h.staged, h.active, h.responder, h.halted, h.queue, h.stalled⟩

theorem of_reported (h : Reported s t) : StageReach s t := of_unitReach (.of_reported h)

theorem moves : StageMoves StageReach where
  refl := refl
  trans := trans
  offer r s := of_reported (.offerRecord r s)
  raise c s := of_reported (.raise c s)
  counters f s := of_reported (.onCounters f s)
  stop ph b c s := of_unitReach (UnitReach.moves.stopUnit ph b c s)
  wake _ _ _ := ⟨rfl, rfl, rfl, rfl, rfl, rfl, rfl, rfl⟩
  controller _ _ hqueue hstalled := ⟨rfl, rfl, rfl, rfl, rfl, rfl, hqueue, hstalled⟩
  told _ _ _ _ _ := ⟨rfl, rfl, rfl, rfl, rfl, rfl, rfl, rfl⟩
  landed _ := ⟨rfl, rfl, rfl, rfl, rfl, rfl, rfl, rfl⟩
  taken _ := ⟨rfl, rfl, rfl, rfl, rfl, rfl, rfl, rfl⟩
  join _ _ _ _ := ⟨rfl, rfl, rfl, rfl, rfl, rfl, rfl, rfl⟩
  opened _ _ _ _ := ⟨rfl, rfl, rfl, rfl, rfl, rfl, rfl, rfl⟩
  free _ _ := ⟨rfl, rfl, rfl, rfl, rfl, rfl, rfl, rfl⟩

end StageReach

/-! ## Fault reports and the tables of a SWAP -/

/-- A fault report leaves all but the outlet, or halts the part from a state that differs in the outlet alone (R164). -/
theorem reportFault_cases (code : FaultCode) (sel : Option Nat) (s : State) :
    Reported s (reportFault code sel s) ∨
    ∃ f : Outlet → Outlet, s.faults.halted = false ∧ reportFault code sel s = enterHalted (s.onOutlet f) := by
  cases hhalted : s.faults.halted with
  | true => exact .inl (by rw [reportFault_halted hhalted]; exact .refl s)
  | false =>
    cases hslot : s.outlet.faultSlot with
    | none => exact .inl (by rw [reportFault_first hhalted hslot]; exact (Reported.onOutlet s _).trans (.arbitrate _))
    | some r =>
      by_cases hsecond : r.second = none
      · exact .inl (by rw [reportFault_second hhalted hslot hsecond]; exact .onOutlet s _)
      · exact .inr ⟨_, rfl, reportFault_third hhalted hslot hsecond⟩

/-- `t` is `s` but for the active tables and what a report reaches. -/
def Swapped (s t : State) : Prop := Reported (s.onActive fun _ => t.active) t

/-- `t` is what entry to HALTED makes of `s`, the active tables and a report aside. -/
def HaltedFrom (s t : State) : Prop := ∃ u, Swapped s u ∧ t = enterHalted u

theorem Swapped.refl (s : State) : Swapped s s := Reported.refl s

theorem Swapped.trans {s t u : State} (h : Swapped s t) (g : Swapped t u) : Swapped s u := by
  obtain ⟨k, m0, m1, hc⟩ := h.controller
  obtain ⟨k', m0', m1', gc⟩ := g.controller
  refine ⟨g.tracker.trans h.tracker, g.units.trans h.units, g.assembler.trans h.assembler, ⟨k', m0', m1', ?_⟩,
    g.monitor.trans h.monitor, g.staged.trans h.staged, rfl, g.responder.trans h.responder, g.halted.trans h.halted,
    g.ready.trans h.ready, g.freeDraws.trans h.freeDraws, g.pending.trans h.pending⟩
  rw [gc, State.onActive_controller, hc]
  rfl

theorem Swapped.of_reported {s t : State} (h : Reported s t) : Swapped s t :=
  ⟨h.tracker, h.units, h.assembler, h.controller, h.monitor, h.staged, rfl, h.responder, h.halted, h.ready, h.freeDraws,
    h.pending⟩

theorem Swapped.onActive (f : Tables → Tables) (s : State) : Swapped s (s.onActive f) := Reported.refl (s.onActive f)

/-- A table is handled with the part running, or its report halts the part (R133). -/
theorem swapTable_cases (name : TableName) (s : State) :
    Swapped s (swapTable name s) ∨ HaltedFrom s (swapTable name s) := by
  have reported (code : FaultCode) (sel : Option Nat) {u : State} (h : Swapped s u) :
      Swapped s (reportFault code sel u) ∨ HaltedFrom s (reportFault code sel u) := by
    rcases reportFault_cases code sel u with hr | ⟨f, -, e⟩
    · exact .inl (h.trans (.of_reported hr))
    · exact .inr ⟨u.onOutlet f, h.trans (.of_reported (.onOutlet u f)), e⟩
  unfold swapTable
  split
  · exact reported _ _ (.refl s)
  · cases name with
    | channel =>
      dsimp only
      split
      · exact reported _ _ (.onActive _ s)
      · exact .inl (.onActive _ s)
    | pair | decibel | test => exact .inl (.onActive _ s)

/-- So are the tables of a SWAP, one after the other. -/
theorem handleTables_cases (ts : List TableName) {s : State} (h : s.faults.halted = false) :
    Swapped s (handleTables ts s) ∨ HaltedFrom s (handleTables ts s) := by
  have halts {u v : State} (g : HaltedFrom u v) (ts : List TableName) : handleTables ts v = v := by
    obtain ⟨w, -, rfl⟩ := g
    cases ts with
    | nil => rfl
    | cons t ts => exact if_pos (congrArg FaultUnit.halted (enterHalted_faults w))
  induction ts generalizing s with
  | nil => exact .inl (.refl s)
  | cons t ts ih =>
    rw [handleTables, if_neg (by simp [h])]
    rcases swapTable_cases t s with hs | hhalted
    · rcases ih (hs.halted.trans h) with ht | ⟨u, hu, e⟩
      · exact .inl (hs.trans ht)
      · exact .inr ⟨u, hs.trans hu, e⟩
    · rw [halts hhalted]
      exact .inr hhalted

theorem Swapped.running {s t : State} (h : Swapped s t) : t.faults.halted = s.faults.halted := h.halted

theorem HaltedFrom.halted {s t : State} (h : HaltedFrom s t) : t.faults.halted = true := by
  obtain ⟨u, -, rfl⟩ := h
  exact congrArg FaultUnit.halted (enterHalted_faults u)

/-- The two ways a SWAP goes: its tables are handled and the directives follow, or a report halts the part (R133). -/
theorem swapOrder_cases (name : SwapName) (tag : Byte) {s : State} (h : s.faults.halted = false) :
    (∃ u code, Swapped s u ∧
      swapOrder name tag s = answer (orderAnswer tag code) (swapDirectives s.active.channels u)) ∨
    ∃ u, HaltedFrom s u ∧ swapOrder name tag s = answer (orderAnswer tag .cancelled) u := by
  rcases handleTables_cases (swapTables name) h with hu | hu
  · refine .inl ⟨_, swapCode false ((swapTables name).any fun t => swapRefuses t s.staged), hu, ?_⟩
    simp only [swapOrder, hu.running, h]
    rfl
  · refine .inr ⟨_, hu, ?_⟩
    simp only [swapOrder, hu.halted]
    rfl

/-! ## Changes of phase (R97) -/

/-- The end of a ramp leaves all but the ramp and what its ONSET record reaches (R120). -/
theorem endRamp_reach (s : State) : ∃ u, Reported s u ∧ endRamp s = u.onController fun c => { c with ramp := none } := by
  unfold endRamp
  split
  · next hramp =>
    refine ⟨s, .refl s, ?_⟩
    rw [State.onController, ← hramp]
  · refine ⟨_, ?_, rfl⟩
    split
    · exact .offerRecord _ s
    · exact .refl s

/-- What a change of phase makes of the controller (R97, R99, R117, R120). -/
def changedController (new : Phase) (c : Controller) : Controller :=
  { c with
    phase := new
    phaseEvents := 0
    ramp := if c.phase = .ramp ∧ new ≠ .muted then none else c.ramp
    hold := if c.phase = .hold then none else c.hold }

theorem State.onController_congr {s : State} {f g : Controller → Controller} (h : f s.controller = g s.controller) :
    s.onController f = s.onController g := by
  unfold State.onController
  rw [h]

theorem Reported.changedController {s t : State} (h : Reported s t) (new : Phase) :
    Reported (s.onController (changedController new)) (t.onController (changedController new)) := by
  obtain ⟨k, m0, m1, hc⟩ := h.controller
  refine ⟨h.tracker, h.units, h.assembler, ⟨k, m0, m1, ?_⟩, h.monitor, h.staged, h.active, h.responder, h.halted, h.ready,
    h.freeDraws, h.pending⟩
  rw [State.onController_controller, hc]
  rfl

/-- The phase left has ended and the new one has begun, before the PHASE record is offered (R97). -/
theorem leavePhase_reach (new : Phase) (s : State) : ∃ u, Reported s u ∧
    (leavePhase new s).onController (fun c => { c with phase := new, phaseEvents := 0 }) =
      u.onController (changedController new) := by
  have stands (f : Controller → Controller)
      (h : { f s.controller with phase := new, phaseEvents := 0 } = changedController new s.controller) :
      ∃ u, Reported s u ∧ (s.onController f).onController (fun c => { c with phase := new, phaseEvents := 0 }) =
        u.onController (changedController new) :=
    ⟨s, .refl s, State.onController_congr (f := fun c => { f c with phase := new, phaseEvents := 0 }) h⟩
  unfold leavePhase
  split
  · next hphase =>
    by_cases hnew : new = .muted
    · rw [if_pos hnew]
      exact stands id (by simp [changedController, hphase, hnew])
    · rw [if_neg hnew]
      obtain ⟨u, hu, e⟩ := endRamp_reach s
      have hphase : u.controller.phase = .ramp := hu.phase.trans hphase
      refine ⟨u, hu, ?_⟩
      rw [e]
      exact State.onController_congr (s := u) (f := fun c => { c with ramp := none, phase := new, phaseEvents := 0 })
        (by simp [changedController, hphase, hnew])
  · next hphase => exact stands _ (by simp [changedController, hphase])
  all_goals next hphase => exact stands id (by simp [changedController, hphase])

/-- A change of phase makes `changedController` of the controller, and otherwise what a report reaches. -/
theorem changePhase_reach (new : Phase) (s : State) :
    Reported (s.onController (changedController new)) (changePhase new s) := by
  obtain ⟨u, hu, e⟩ := leavePhase_reach new s
  unfold changePhase
  dsimp only
  rw [e]
  exact (hu.changedController new).trans (.offerRecord _ _)

/-! ## Close reports (R122) -/

/-- `t` is `s` in everything that the phase, the units and the queue go by; a ramp or a hold in progress may have new
figures. -/
structure Noted (s t : State) : Prop where
  tracker : t.tracker = s.tracker
  units : t.units = s.units
  active : t.active = s.active
  halted : t.faults.halted = s.faults.halted
  phase : t.controller.phase = s.controller.phase
  mutedFrom : t.controller.mutedFrom = s.controller.mutedFrom
  queue : t.controller.queue = s.controller.queue
  stalled : t.controller.stalled = s.controller.stalled
  ramp : t.controller.ramp.isSome = s.controller.ramp.isSome
  hold : t.controller.hold.isSome = s.controller.hold.isSome

namespace Noted
variable {s t u : State}

theorem refl (s : State) : Noted s s := ⟨rfl, rfl, rfl, rfl, rfl, rfl, rfl, rfl, rfl, rfl⟩

theorem trans (h : Noted s t) (g : Noted t u) : Noted s u :=
  ⟨g.tracker.trans h.tracker, g.units.trans h.units, g.active.trans h.active, g.halted.trans h.halted,
    g.phase.trans h.phase, g.mutedFrom.trans h.mutedFrom, g.queue.trans h.queue, g.stalled.trans h.stalled,
    g.ramp.trans h.ramp, g.hold.trans h.hold⟩

theorem of_reported (h : Reported s t) : Noted s t :=
  ⟨h.tracker, h.units, h.active, h.halted, h.phase, h.mutedFrom, h.queue, h.stalled, congrArg _ h.ramp, congrArg _ h.hold⟩

theorem offer (r : Record) (s : State) : Noted s (offerRecord r s) := of_reported (.offerRecord r s)

theorem holdClose (first : Tick) (s : State) : Noted s (holdClose first s) := by
  unfold Machine.holdClose
  split
  · exact refl s
  · next h hhold =>
    have told : Noted s (s.onController fun c => { c with hold := some { h with
        tally := countUp Config.count16Max h.tally, quietRef := first } }) :=
      ⟨rfl, rfl, rfl, rfl, rfl, rfl, rfl, rfl, rfl, by simp [hhold]⟩
    dsimp only
    split
    · exact told.trans (of_reported (.raise _ _))
    · exact told

theorem rampClose (n : Nat) (s : State) : Noted s (rampClose n s) := by
  unfold Machine.rampClose
  split
  · exact refl s
  · next r hramp =>
    have counted (r' : Ramp) : Noted s (s.onController fun c => { c with ramp := some r' }) :=
      ⟨rfl, rfl, rfl, rfl, rfl, rfl, rfl, rfl, by simp [hramp], rfl⟩
    dsimp only
    split
    · exact (counted _).trans (offer _ _)
    · exact counted _

theorem normalClose (r : CloseReport) (s : State) : Noted s (normalClose r s) := by
  unfold Machine.normalClose
  have counted : Noted s (setMarks (eventsHold (countOn s.controller.phaseEvents))
      (s.onController fun c => { c with phaseEvents := countOn c.phaseEvents })) :=
    ⟨rfl, rfl, rfl, rfl, rfl, rfl, rfl, rfl, rfl, rfl⟩
  refine counted.trans ?_
  dsimp only
  split
  · exact holdClose _ _
  · exact rampClose _ _
  all_goals exact refl _

end Noted

/-- The counted state of a close report, before the check for a rupture (R122). -/
def closeCounted (r : CloseReport) (s : State) : State :=
  let s1 := onCounters (fun c =>
    { c with events := countOn c.events, guarded := if r.cls = .guarded then countOn c.guarded else c.guarded }) s
  if r.cls = .normal then normalClose r s1 else s1

theorem closeReport_eq (r : CloseReport) (s : State) :
    closeReport r s = if isRupture r (closeCounted r s) then rupture r (closeCounted r s) else closeCounted r s := rfl

theorem Noted.closeCounted (r : CloseReport) (s : State) : Noted s (closeCounted r s) := by
  have counted := Noted.of_reported (.onCounters (fun c =>
    { c with events := countOn c.events, guarded := if r.cls = .guarded then countOn c.guarded else c.guarded }) s)
  unfold Machine.closeCounted
  dsimp only
  split
  · exact counted.trans (.normalClose r _)
  · exact counted

/-- A close report is noted, or it is a rupture in RAMP, HOLD or UNLOAD (R123). -/
theorem closeReport_cases (r : CloseReport) (s : State) :
    Noted s (closeReport r s) ∨
    ∃ u, Noted s u ∧ rupturePhase s.controller.phase = true ∧ closeReport r s = rupture r u := by
  have noted := Noted.closeCounted r s
  rw [closeReport_eq]
  split
  · next hrupture =>
    simp only [isRupture, Bool.and_eq_true] at hrupture
    exact .inr ⟨_, noted, noted.phase ▸ hrupture.1, rfl⟩
  · exact .inl noted

end Sys2Proof.Machine

/-! # Management frames -/

namespace Sys2Proof.Machine

section
variable {c : Instr} {k : MgmtKind} {f : Frame} {s t : State} {a : Answer}

/-- An accepted command whose carrying out builds one answer on the state `t`. -/
theorem exec_answered (hc : mgmtCommand c = some (k, f)) (h : Accepted k f s) (hr : t.responder = s.responder)
    (hcarry : carryOut (frameInHand k f) (inHand k f s) = answer a (inHand k f t)) :
    exec c s = .next (answered a t) :=
  (exec_of_mgmtCommand hc s).trans (congrArg Host.Outcome.next (mgmtArrives_answered h hr hcarry))

theorem exec_accepted (hc : mgmtCommand c = some (k, f)) (h : Accepted k f s) :
    exec c s = .next (release (carryOut (frameInHand k f) (inHand k f s))) :=
  (exec_of_mgmtCommand hc s).trans (congrArg Host.Outcome.next (mgmtArrives_accepted h))

/-- Of a list of commands with their kinds, each the management command of the frame. -/
theorem mgmtCommand_of_mem {l : List (Instr × MgmtKind)} (h : (c, k) ∈ l)
    (hl : ∀ p ∈ l, mgmtCommand p.1 = some (p.2, f)) : mgmtCommand c = some (k, f) := hl _ h

theorem mgmtCommand_order_of_mem {l : List Instr} (h : c ∈ l) (hl : ∀ p ∈ l, mgmtCommand p = some (.order, f)) :
    mgmtCommand c = some (.order, f) := hl _ h

/-- With its tag and its answer the frame in hand has a whole field at every offset of the body. -/
theorem fieldAt_frameInHand (k : MgmtKind) (f : Frame) (i w : Nat) :
    fieldAt (frameInHand k f).body i w = fieldAt f.payload (1 + i) w := fieldAt_drop f.payload 1 i w

/-- The responder of a part that has accepted a frame, the frame released. -/
theorem release_inHand (h : Accepted k f s) (hk : t.responder = { inHand := some (frameInHand k f), waiting := [] }) :
    release t = { t with responder := s.responder } := by
  rw [release, State.onResponder, hk, h.responder]

end

/-! ## IDENTIFY, SET-MARK, READ-STATE -/

theorem identityBytes_eq : identityBytes = [80, 0x0C, 0x94, 1, 32, 4, 16, 8, 64, 0x02, 0x00] := by decide

theorem answerPayload_identify (tag : Byte) :
    answerPayload { tag, kind := .identify, code := .done, data := .identity } =
      [tag, 0x10, 0] ++ [80, 0x0C, 0x94, 1, 32, 4, 16, 8, 64, 0x02, 0x00] := by
  simp [answerPayload, answerDataBytes, identityBytes_eq, mgmtKindCode, kindIdentify, answerCodeCode, natBE]

/-- Settles O46: both frames build their one answer; the mark number has three cases. -/
theorem identifyAndSetMark : Obligations.IdentifyAndSetMark := by
  refine ⟨fun f s h => exec_answered rfl h rfl rfl, fun f s h => ?_, identityBytes_eq, fun f => answerPayload_identify _,
    by decide, by decide⟩
  have hbody := fieldAt_frameInHand .setMark f 0 1
  refine ⟨fun h0 => exec_answered rfl h rfl ?_, fun h1 => exec_answered rfl h rfl ?_, fun h2 => exec_answered rfl h rfl ?_⟩
  all_goals
    show carrySetMark _ _ = _
    rw [carrySetMark, hbody]
  · rw [h0]; rfl
  · rw [h1]; rfl
  · obtain ⟨n, hn⟩ := Nat.exists_eq_add_of_le h2
    rw [hn, Nat.add_comm]
    rfl

/-- Settles O47: the content is `stateContent` of the part with the frame in hand. -/
theorem readStateReportsAndMarksSeen : Obligations.ReadStateReportsAndMarksSeen := by
  intro f s h
  refine ⟨stateContent (inHand .readState f s), exec_answered rfl h rfl rfl, rfl, rfl, rfl, rfl, rfl, rfl, rfl, rfl, rfl,
    rfl, rfl, rfl, rfl, rfl, rfl, rfl, rfl, rfl, Option.isSome_iff_exists, ?_, h.running, rfl, rfl⟩
  simp [stateContent, inHand, Option.any_eq_true, Option.isSome_iff_ne_none]

/-- Settles O52: the frame passes the inlet and finds no room. -/
theorem fullAnswerQueueDiscards : Obligations.FullAnswerQueueDiscards := by
  intro f s c k hmem hrun hcheck hlen hfull
  have hfull : answersFull s.outlet = true := decide_eq_true hfull
  rw [exec_of_mgmtCommand (mgmtCommand_of_mem (f := f) hmem (by simp [mgmtCommand]))]
  simp only [mgmtArrives, receive, hrun, hcheck, mgmtOf_of_length hlen, acceptMgmt, hfull]
  rfl

/-! ## DROP-ORDERS -/

/-- Settles O48: the cancelled answers and DONE fill the queue together, and then the arbiter has its turn. -/
theorem dropOrdersEmptiesQueue : Obligations.DropOrdersEmptiesQueue := by
  intro f s h cancelled filled
  let v : State := { s with controller := { s.controller with queue := [], stalled := false }, outlet := filled }
  have hexec : exec (.dropOrders f) s = .next (arbitrate v) := by
    rw [exec_accepted rfl h]
    show Host.Outcome.next (release (answer _ (answerEach _ _))) = _
    rw [answer_answerEach, release_arbitrate]
    congr 2
    rw [release_inHand h rfl]
    simp [fillAnswers, State.onOutlet, State.onController, inHand, v, filled, cancelled, orderAnswer, mgmtAnswer, replyTo,
      frameInHand]
  have hfree : linkFree v = linkFree s := rfl
  refine ⟨(arbitrate v).outlet, ?_, fun hbusy => ?_, fun hidle => ?_, ?_, ?_⟩
  · rw [hexec, arbitrate_eq_with_outlet v]
  · rw [arbitrate_of_not_linkFree (hfree.trans hbusy)]
  · obtain ⟨hready, hsending⟩ := linkFree_iff.mp hidle
    exact arbiterChoice_arbitrate (s := v) hready hsending
  · rw [answerTrail_arbitrate]
    simp only [answerTrail, v, filled]
    split <;> simp
  · rw [recordTrail_arbitrate]
    rfl

/-! ## ORDER frames (R92 to R94, R156) -/

section
variable {c : Instr} {f : Frame} {s : State} {o : Order}

theorem carryOut_order_none {u : State} (h : orderOf (fieldAt f.payload 1 1) (fieldAt f.payload 2 1) = none) :
    carryOut (frameInHand .order f) u = answer (replyTo .order f .refusedRange .none) u := by
  show carryOrder _ _ = _
  rw [carryOrder, fieldAt_frameInHand, fieldAt_frameInHand, h]
  rfl

theorem carryOut_order_some {u : State} (h : orderOf (fieldAt f.payload 1 1) (fieldAt f.payload 2 1) = some o) :
    carryOut (frameInHand .order f) u = orderArrives o (byteAt f.payload 0) u := by
  show carryOrder _ _ = _
  rw [carryOrder, fieldAt_frameInHand, fieldAt_frameInHand, h]
  rfl

theorem orderInTest_queued {tag : Byte} (ho : o ≠ .arm) (hroom : s.controller.queue.length < 4) :
    orderInTest o tag s = s.onController fun c => { c with queue := c.queue ++ [{ order := o, tag }] } :=
  (if_neg ho).trans (if_neg (Nat.not_le.mpr hroom))

theorem orderInTest_full {tag : Byte} (ho : o ≠ .arm) (hfull : 4 ≤ s.controller.queue.length) :
    orderInTest o tag s = answer (orderAnswer tag .refusedFull) s :=
  (if_neg ho).trans (if_pos hfull)

theorem orderInIdle_refused {tag : Byte} (ho : o ≠ .arm) (hswap : ∀ n, o ≠ .swap n) :
    orderInIdle o tag s = answer (orderAnswer tag .refusedPhase) s := by
  cases o with
  | arm => exact absurd rfl ho
  | swap n => exact absurd rfl (hswap n)
  | _ => rfl

/-- An order outside IDLE that finds room joins the queue (R93, R94). -/
theorem exec_order_queued (hc : mgmtCommand c = some (.order, f)) (h : Accepted .order f s)
    (hphase : s.controller.phase ≠ .idle) (horder : orderOf (fieldAt f.payload 1 1) (fieldAt f.payload 2 1) = some o)
    (harm : o ≠ .arm) (hroom : s.controller.queue.length < 4) :
    exec c s = .next { s with
      outlet := { s.outlet with reservations := s.outlet.reservations + 1 }
      controller := { s.controller with queue := s.controller.queue ++ [{ order := o, tag := byteAt f.payload 0 }] } } := by
  have harrives : orderArrives o (byteAt f.payload 0) (inHand .order f s) = _ :=
    (if_neg hphase).trans (orderInTest_queued harm hroom)
  rw [exec_accepted hc h, carryOut_order_some horder, harrives, release_inHand h rfl]
  rfl

/-- An order that is answered at once changes nothing else. -/
theorem exec_order_answered {code : AnswerCode} (hc : mgmtCommand c = some (.order, f)) (h : Accepted .order f s)
    (horder : orderOf (fieldAt f.payload 1 1) (fieldAt f.payload 2 1) = some o)
    (hanswer : orderArrives o (byteAt f.payload 0) (inHand .order f s) =
      answer (orderAnswer (byteAt f.payload 0) code) (inHand .order f s)) :
    exec c s = .next (answered (replyTo .order f code .none) s) :=
  exec_answered hc h rfl ((carryOut_order_some horder).trans hanswer)

end

/-- Settles O42: one law for the order that is queued and one for the order that is answered at once; the codes are read
off `orderOf`. -/
theorem ordersOnArrival : Obligations.OrdersOnArrival := by
  refine ⟨fun f o s c hc h hphase horder harm hroom => ?_, fun f s c hc h => ?_, fun n => ⟨rfl, rfl, rfl, rfl, rfl, rfl, rfl⟩,
    ⟨rfl, rfl, rfl, rfl, rfl, fun n hn => ?_⟩, ⟨rfl, rfl, fun n hn => ?_⟩, fun o n ho => ?_⟩
  · exact exec_order_queued (mgmtCommand_order_of_mem hc (by simp [mgmtCommand])) h hphase horder harm hroom
  · have hc : mgmtCommand c = some (.order, f) := mgmtCommand_order_of_mem hc (by simp [mgmtCommand])
    refine ⟨fun hnone => exec_answered hc h rfl (carryOut_order_none hnone),
      fun hphase horder => exec_order_answered hc h horder (if_neg hphase),
      fun o hphase horder harm hfull => exec_order_answered hc h horder ((if_neg hphase).trans (orderInTest_full harm hfull)),
      fun o hphase horder harm hswap => exec_order_answered hc h horder ((if_pos hphase).trans (orderInIdle_refused harm hswap))⟩
  · obtain ⟨m, rfl⟩ := Nat.exists_eq_add_of_le' hn
    rfl
  · obtain ⟨m, rfl⟩ := Nat.exists_eq_add_of_le' hn
    rfl
  · rcases ho with rfl | ho
    · rfl
    · obtain ⟨m, rfl⟩ := Nat.exists_eq_add_of_le' ho
      rfl

end Sys2Proof.Machine

/-! # Tables: written, read, and left by the resets -/

namespace Sys2Proof.Machine

/-! ## Extents and names (R131, R171) -/

theorem extentOk_channel_iff {first count : Nat} : extentOk .channel first count = true ↔
    first ≤ 31 ∧ 1 ≤ count ∧ count ≤ 4 ∧ first + count ≤ 32 := by simp [extentOk, and_assoc]

theorem extentOk_pair_iff {first count : Nat} : extentOk .pair first count = true ↔
    first ≤ 15 ∧ 1 ≤ count ∧ count ≤ 4 ∧ first + count ≤ 16 := by simp [extentOk, and_assoc]

theorem extentOk_decibel_iff {first count : Nat} : extentOk .decibel first count = true ↔
    first ≤ 99 ∧ 1 ≤ count ∧ count ≤ 100 ∧ first + count ≤ 100 := by simp [extentOk, and_assoc]

theorem extentOk_test_iff {first count : Nat} : extentOk .test first count = true ↔ first = 0 ∧ count = 1 := by
  simp [extentOk]

theorem tableOf_of_le {n : Nat} (h : 4 ≤ n) : tableOf n = none := by
  obtain ⟨m, rfl⟩ := Nat.exists_eq_add_of_le' h
  rfl

theorem copyOf_of_le {n : Nat} (h : 2 ≤ n) : copyOf n = none := by
  obtain ⟨m, rfl⟩ := Nat.exists_eq_add_of_le' h
  rfl

/-! ## Vectors written and read by a run of entries -/

theorem writeVec_getElem {α : Type} {n : Nat} (v : Vector α n) (first : Nat) (es : List α) (i : Nat) (hi : i < n) :
    (writeVec v first es)[i] = if first ≤ i then (es[i - first]?).getD v[i] else v[i] := by
  induction es generalizing v first with
  | nil => simp [writeVec]
  | cons x xs ih =>
    rw [writeVec, ih, Vector.getElem_setIfInBounds]
    rcases Nat.lt_trichotomy first i with h | rfl | h
    · obtain ⟨d, rfl⟩ := Nat.exists_eq_add_of_lt h
      rw [if_pos (by omega), if_neg (by omega), if_pos (by omega), show first + d + 1 - first = d + 1 by omega,
        show first + d + 1 - (first + 1) = d by omega, List.getElem?_cons_succ]
    · simp
    · rw [if_neg (by omega), if_neg (by omega), if_neg (by omega)]

theorem length_readVec {α : Type} {n : Nat} (v : Vector α n) {first count : Nat} (h : first + count ≤ n) :
    (readVec v first count).length = count := by
  simp [readVec]
  omega

theorem readVec_getElem? {α : Type} {n : Nat} (v : Vector α n) {first count : Nat} {i : Nat} (hi : i < n)
    (hfirst : first ≤ i) (hlast : i < first + count) : (readVec v first count)[i - first]? = some v[i] := by
  have hlt : i - first < count := by omega
  simp [readVec, hlt, Nat.add_sub_cancel' hfirst, hi]

/-! ## The entries of a WRITE-TABLE frame (R172) -/

theorem allSome_eq_some_iff {α : Type} {os : List (Option α)} {l : List α} : allSome os = some l ↔ os = l.map some := by
  induction os generalizing l with
  | nil => cases l <;> simp [allSome]
  | cons o os ih =>
    cases o with
    | none => cases l <;> simp [allSome]
    | some a =>
      cases l with
      | nil => simp [allSome]
      | cons b l => simp [allSome, ih, and_comm]

theorem length_pieces (size count : Nat) (bs : List Byte) : (pieces size count bs).length = count := by
  induction count generalizing bs with
  | zero => rfl
  | succ n ih => simp [pieces, ih]

theorem pieces_getElem? {size count j : Nat} (bs : List Byte) (h : j < count) :
    (pieces size count bs)[j]? = some ((bs.drop (size * j)).take size) := by
  induction count generalizing bs j with
  | zero => omega
  | succ n ih =>
    cases j with
    | zero => simp [pieces]
    | succ j =>
      rw [pieces, List.getElem?_cons_succ, ih _ (by omega), List.drop_drop, Nat.mul_succ, Nat.add_comm]

/-- Pieces that all read as entries: each in its place. -/
theorem allSome_map_pieces_iff {α : Type} {g : List Byte → Option α} {size count : Nat} {bs : List Byte} {l : List α} :
    allSome ((pieces size count bs).map g) = some l ↔
      l.length = count ∧ ∀ j < count, l[j]? = g ((bs.drop (size * j)).take size) := by
  rw [allSome_eq_some_iff]
  constructor
  · intro h
    have hlen : l.length = count := by
      have := congrArg List.length h
      simpa [length_pieces] using this.symm
    refine ⟨hlen, fun j hj => ?_⟩
    have hat := congrArg (·[j]?) h
    simp only [List.getElem?_map, pieces_getElem? bs hj, Option.map_some] at hat
    rw [List.getElem?_eq_getElem (hlen ▸ hj)] at hat ⊢
    exact (Option.some_inj.mp hat).symm
  · rintro ⟨hlen, hread⟩
    refine List.ext_getElem? fun j => ?_
    by_cases hj : j < count
    · rw [List.getElem?_map, pieces_getElem? bs hj, List.getElem?_map, Option.map_some, ← hread j hj,
        List.getElem?_eq_getElem (hlen ▸ hj)]
      rfl
    · rw [List.getElem?_eq_none (by simp [length_pieces]; omega), List.getElem?_eq_none (by simp [hlen]; omega)]

theorem entriesOf_channel_iff {count : Nat} {bs : List Byte} {es : TableEntries} :
    entriesOf .channel count bs = some es ↔ ∃ l, es = .channel l ∧ l.length = count ∧
      ∀ j < count, l[j]? = channelEntryOf ((bs.drop (17 * j)).take 17) := by
  simp only [entriesOf, Option.map_eq_some_iff, allSome_map_pieces_iff, entrySize]
  exact exists_congr fun l => ⟨fun ⟨h, e⟩ => ⟨e.symm, h⟩, fun ⟨e, h⟩ => ⟨h, e.symm⟩⟩

theorem entriesOf_pair_iff {count : Nat} {bs : List Byte} {es : TableEntries} :
    entriesOf .pair count bs = some es ↔ ∃ l, es = .pair l ∧ l.length = count ∧
      ∀ j < count, l[j]? = pairEntryOf ((bs.drop (7 * j)).take 7) := by
  simp only [entriesOf, Option.map_eq_some_iff, allSome_map_pieces_iff, entrySize]
  exact exists_congr fun l => ⟨fun ⟨h, e⟩ => ⟨e.symm, h⟩, fun ⟨e, h⟩ => ⟨h, e.symm⟩⟩

theorem entriesOf_decibel_iff {count : Nat} {bs : List Byte} {es : TableEntries} :
    entriesOf .decibel count bs = some es ↔ ∃ l, es = .decibel l ∧ l.length = count ∧
      ∀ j < count, l[j]? = levelOf ((bs.drop (2 * j)).take 2) := by
  simp only [entriesOf, Option.map_eq_some_iff, allSome_map_pieces_iff, entrySize]
  exact exists_congr fun l => ⟨fun ⟨h, e⟩ => ⟨e.symm, h⟩, fun ⟨e, h⟩ => ⟨h, e.symm⟩⟩

theorem entriesOf_test_iff {bs : List Byte} {es : TableEntries} :
    entriesOf .test 1 bs = some es ↔ ∃ t, es = .test t ∧ testTableOf (bs.take 24) = some t := by
  cases h : testTableOf (bs.take 24) with
  | none => simp [entriesOf, pieces, entrySize, h, allSome]
  | some t => simp [entriesOf, pieces, entrySize, h, allSome, eq_comm]

/-! ## WRITE-TABLE (R131) -/

section
variable {f : Frame} {s : State}

theorem writeOf_frameInHand (f : Frame) : writeOf (frameInHand .writeTable f).body =
    (tableOf (fieldAt f.payload 1 1)).bind fun name =>
      if extentOk name (fieldAt f.payload 2 1) (fieldAt f.payload 3 1) then
        (entriesOf name (fieldAt f.payload 3 1) (f.payload.drop 4)).map fun es => (fieldAt f.payload 2 1, es)
      else none := by
  unfold writeOf
  rw [fieldAt_frameInHand, fieldAt_frameInHand, fieldAt_frameInHand,
    show (frameInHand .writeTable f).body.drop 3 = f.payload.drop 4 from List.drop_drop]
  cases tableOf (fieldAt f.payload 1 1) with
  | none => rfl
  | some name =>
    simp only [Option.bind_eq_bind, Option.bind_some]
    split
    · cases entriesOf name (fieldAt f.payload (1 + 2) 1) (f.payload.drop 4) <;> rfl
    · rfl

theorem exec_writeTable_done {first : Nat} {es : TableEntries} (h : Accepted .writeTable f s)
    (hw : writeOf (frameInHand .writeTable f).body = some (first, es)) :
    exec (.writeTable f) s =
      .next (answered (replyTo .writeTable f .done .none) { s with staged := writeEntries first es s.staged }) := by
  refine exec_answered rfl h rfl ?_
  show carryWriteTable _ _ = _
  rw [carryWriteTable, hw]
  rfl

theorem exec_writeTable_refused (h : Accepted .writeTable f s) (hw : writeOf (frameInHand .writeTable f).body = none) :
    exec (.writeTable f) s = .next (answered (replyTo .writeTable f .refusedRange .none) s) := by
  refine exec_answered rfl h rfl ?_
  show carryWriteTable _ _ = _
  rw [carryWriteTable, hw]
  rfl

end

/-- Settles O50: what the frame writes is `writeOf` of its body, and each entry written stands in its place. -/
theorem writeTableWritesStagedCopy : Obligations.WriteTableWritesStagedCopy := by
  refine ⟨fun f s h => ⟨fun name es hname hextent hes => exec_writeTable_done h ?_,
    fun hbad => exec_writeTable_refused h ?_⟩, fun first es t c _ => writeVec_getElem _ _ _ _ _,
    fun first es t i _ => writeVec_getElem _ _ _ _ _, fun first es t i _ => writeVec_getElem _ _ _ _ _,
    fun first t => ⟨fun _ => rfl, fun _ => rfl, fun _ => rfl, fun _ => rfl⟩,
    fun first count => ⟨extentOk_channel_iff, extentOk_pair_iff, extentOk_decibel_iff, extentOk_test_iff⟩,
    fun count bs es => ⟨entriesOf_channel_iff, entriesOf_pair_iff, entriesOf_decibel_iff, entriesOf_test_iff⟩,
    rfl, rfl, rfl, rfl, fun n => tableOf_of_le⟩
  · rw [writeOf_frameInHand, hname, Option.bind_some, if_pos hextent, hes, Option.map_some]
  · rw [writeOf_frameInHand]
    rcases hbad with hnone | ⟨name, hname, hextent | hes⟩
    · rw [hnone, Option.bind_none]
    · rw [hname, Option.bind_some, if_neg (by simp [hextent])]
    · rw [hname, Option.bind_some, hes, Option.map_none, ite_self]

/-! ## READ-TABLE (R132) -/

section
variable {f : Frame} {s : State}

theorem readOf_frameInHand (f : Frame) : readOf (frameInHand .readTable f).body =
    (tableOf (fieldAt f.payload 1 1)).bind fun name => (copyOf (fieldAt f.payload 2 1)).bind fun copy =>
      if extentOk name (fieldAt f.payload 3 1) (fieldAt f.payload 4 1) then
        some (name, copy, fieldAt f.payload 3 1, fieldAt f.payload 4 1)
      else none := by
  unfold readOf
  rw [fieldAt_frameInHand, fieldAt_frameInHand, fieldAt_frameInHand, fieldAt_frameInHand]
  rfl

theorem exec_readTable_done {name : TableName} {copy : CopyName} {first count : Nat} (h : Accepted .readTable f s)
    (hr : readOf (frameInHand .readTable f).body = some (name, copy, first, count)) :
    exec (.readTable f) s = .next (answered (replyTo .readTable f .done
      (.entries name copy first count (readEntries name first count (copyTables copy s)))) s) := by
  refine exec_answered rfl h rfl ?_
  show carryReadTable _ _ = _
  rw [carryReadTable, hr]
  cases copy <;> rfl

theorem exec_readTable_refused (h : Accepted .readTable f s) (hr : readOf (frameInHand .readTable f).body = none) :
    exec (.readTable f) s = .next (answered (replyTo .readTable f .refusedRange .none) s) := by
  refine exec_answered rfl h rfl ?_
  show carryReadTable _ _ = _
  rw [carryReadTable, hr]
  rfl

theorem copyTables_eq_ite (copy : CopyName) (s : State) :
    copyTables copy s = if copy = .staged then s.staged else s.active := by cases copy <;> rfl

end

/-- Settles O51: the answer holds `readEntries` of the copy named, each entry in its place. -/
theorem readTableReadsEitherCopy : Obligations.ReadTableReadsEitherCopy := by
  refine ⟨?_, ⟨rfl, rfl, rfl, rfl, fun n => tableOf_of_le⟩, rfl, rfl, fun n => copyOf_of_le⟩
  intro f s h first count
  refine ⟨fun name copy hname hcopy hextent => ?_, fun hbad => exec_readTable_refused h ?_⟩
  · intro source
    have hr : readOf (frameInHand .readTable f).body = some (name, copy, first, count) := by
      rw [readOf_frameInHand, hname, hcopy, Option.bind_some, Option.bind_some, if_pos hextent]
    have hsource : copyTables copy s = source := copyTables_eq_ite copy s
    refine ⟨_, exec_readTable_done h hr, ?_, ?_, ?_, ?_⟩ <;> rintro rfl <;> rw [hsource]
    · obtain ⟨-, -, -, hle⟩ := extentOk_channel_iff.mp hextent
      exact ⟨_, rfl, length_readVec _ hle, fun c hfirst hlast => readVec_getElem? _ c.isLt hfirst hlast⟩
    · obtain ⟨-, -, -, hle⟩ := extentOk_pair_iff.mp hextent
      exact ⟨_, rfl, length_readVec _ hle, fun i hfirst hlast => readVec_getElem? _ i.isLt hfirst hlast⟩
    · obtain ⟨-, -, -, hle⟩ := extentOk_decibel_iff.mp hextent
      exact ⟨_, rfl, length_readVec _ hle, fun i hfirst hlast => readVec_getElem? _ i.isLt hfirst hlast⟩
    · rfl
  · rw [readOf_frameInHand]
    rcases hbad with hname | hcopy | ⟨name, hname, hextent⟩
    · rw [hname, Option.bind_none]
    · cases tableOf (fieldAt f.payload 1 1) with
      | none => rfl
      | some name => rw [Option.bind_some, hcopy, Option.bind_none]
    · rw [hname, Option.bind_some]
      cases copyOf (fieldAt f.payload 2 1) with
      | none => rfl
      | some copy => exact if_neg (Bool.eq_false_iff.mp hextent)

/-! ## The resets (R152, R160) -/

theorem getElem_initialLevels (i : Fin 100) : initialLevels[i] = 328 * i.val := by simp [initialLevels]

theorem powerOnReset_eq (s : State) : powerOnReset s =
    { State.reset with
      outlet :=
        { Outlet.empty with
          records := if s.ready then [] else [.identity .powerOn]
          sending := if s.ready then some (.record (.identity .powerOn)) else none }
      ready := s.ready, freeDraws := s.freeDraws, pending := s.pending } := by
  rw [powerOnReset, arbitrate_eq_with_outlet, arbitrate_outlet]
  cases s.ready <;> simp [linkFree, State.reset, Outlet.empty, chooseNext]

/-- Settles O3: `powerOnReset` is the reset state with the arbiter's turn, and its fields are constants. -/
theorem powerOnResetRestoresDefaults : Obligations.PowerOnResetRestoresDefaults := by
  refine ⟨fun s => congrArg Host.Outcome.next (powerOnReset_eq s), ?_⟩
  have hlevels := getElem_initialLevels
  refine ⟨fun k => ?_, rfl, rfl, rfl, rfl, fun c => ?_, rfl, fun i => ?_, rfl, rfl, rfl, rfl, fun c => ?_, fun i => ?_, hlevels,
    rfl, rfl, fun c => ?_, rfl⟩
  · simp [State.reset, Tracker.initial]
  · simp [State.reset, ChannelUnit.initial]
  · simp [State.reset, Assembler.initial]
  · simp [State.reset, Tables.initial, ChannelEntry.initial]
  · simp [State.reset, Tables.initial, PairEntry.initial]
  · cases c <;> exact ⟨rfl, rfl⟩

theorem linkReset_eq (tag : Byte) (s : State) : linkReset tag s =
    { State.reset with
      staged := s.staged, active := s.active
      outlet :=
        { Outlet.empty with
          answers := if s.ready then [] else [resetAnswer tag]
          records := [.identity .link]
          sending := if s.ready then some (.answer (resetAnswer tag)) else none }
      ready := s.ready, freeDraws := s.freeDraws, pending := s.pending } := by
  rw [linkReset, arbitrate_eq_with_outlet, arbitrate_outlet]
  cases s.ready <;> simp [linkFree, Outlet.empty, chooseNext]

/-- A RESET-LINK that passes its checks is carried out, in HALTED and outside it (R160, R161). -/
theorem exec_resetLink {f : Frame} (s : State) (hcheck : checkOk kindResetLink f = true) (hlen : f.payload.length = 1) :
    exec (.resetLink f) s = .next (linkReset (byteAt f.payload 0) s) := by
  have hm : mgmtOf .resetLink f.payload = some (frameInHand .resetLink f) := mgmtOf_of_length (by simpa [mgmtLengthOk])
  show Host.Outcome.next (resetLinkArrives f s) = _
  unfold resetLinkArrives receive
  rw [hcheck, hm]
  split <;> rfl

/-- In HALTED one that fails them changes nothing. -/
theorem exec_resetLink_halted {f : Frame} {s : State} (hs : s.faults.halted = true)
    (hbad : checkOk kindResetLink f = false ∨ f.payload.length ≠ 1) : exec (.resetLink f) s = .next s := by
  show Host.Outcome.next (resetLinkArrives f s) = _
  unfold resetLinkArrives
  rw [if_pos hs]
  rcases hbad with hcheck | hlen
  · simp [hcheck]
  · simp [mgmtOf, mgmtLengthOk, hlen]

/-- Settles O4: one law for the RESET-LINK that passes its checks and one for HALTED. -/
theorem resetLinkResetsAllButTables : Obligations.ResetLinkResetsAllButTables :=
  ⟨fun _ s hcheck hlen => (exec_resetLink s hcheck hlen).trans (congrArg Host.Outcome.next (linkReset_eq _ s)),
    fun _ _ => exec_resetLink_halted⟩

/-- Settles O60: the reset state is empty but for one record, and its tables are the defaults. -/
theorem resetHasTheRelations : Obligations.ResetHasTheRelations := by
  obtain ⟨hconds, hcut, hplaces⟩ := OutletSound.of_reset (s := State.reset) rfl rfl rfl rfl rfl
  obtain ⟨harrivals, hevents⟩ := AssemblySound.of_empty (s := State.reset) rfl rfl
  have hdark (c : Chan) : State.reset.units[c] = ChannelUnit.initial := by simp [State.reset]
  have hnone (k : Card) : State.reset.tracker.expected[k] = none := by simp [State.reset, Tracker.initial]
  refine ⟨hconds, hcut, hplaces, ⟨Nat.zero_le _, Nat.zero_le _, rfl, rfl, rfl⟩, ⟨by decide +kernel, by decide⟩,
    ⟨?_, ?_, ?_, ?_⟩, ⟨?_, ?_, ?_, ?_, ?_, ?_, ?_⟩, ?_, harrivals, hevents,
    ⟨Tests.tablesInRange_initial, Tests.tablesInRange_initial⟩, ?_, ?_⟩
  · exact fun _ h => nomatch h
  · exact fun _ _ _ _ h => nomatch h
  · exact fun k h => by simp [State.reset, Tracker.initial] at h
  · exact fun h => nomatch h
  · simp [State.reset, Controller.initial]
  · simp [State.reset, Controller.initial]
  · simp [State.reset, Controller.initial]
  · simp [State.reset, Controller.initial]
  · exact fun _ => rfl
  · exact fun h => nomatch h
  · exact fun h => nomatch h
  · exact fun c => by simp [hdark, ChannelUnit.initial]
  · exact fun k l => by simp [unitAhead, hdark, ChannelUnit.initial]
  · exact fun c h hc => by simp [hdark, ChannelUnit.initial] at hc

end Sys2Proof.Machine

/-! # Frames that the inlet turns away, and the third fault -/

namespace Sys2Proof.Machine

/-! ## The forms of R172 -/

theorem mgmtLengthOk_writeTable_iff {p : List Byte} : mgmtLengthOk .writeTable p = true ↔
    4 ≤ p.length ∧ (fieldAt p 1 1 = 0 → p.length = 4 + fieldAt p 3 1 * 17) ∧
      (fieldAt p 1 1 = 1 → p.length = 4 + fieldAt p 3 1 * 7) ∧ (fieldAt p 1 1 = 2 → p.length = 4 + fieldAt p 3 1 * 2) ∧
      (fieldAt p 1 1 = 3 → p.length = 4 + fieldAt p 3 1 * 24) := by
  rw [mgmtLengthOk]
  rcases fieldAt p 1 1 with _ | _ | _ | _ | n
  all_goals simp [tableOf, entrySize]

section
variable {c : Instr} {k : Byte} {f : Frame} {s : State}

theorem commandFrame_of_mgmtCommand {m : MgmtKind} (h : mgmtCommand c = some (m, f)) :
    commandFrame c = some (mgmtKindCode m, f) := by
  cases c <;> cases h
  all_goals rfl

theorem payloadFits_of_mgmtCommand {m : MgmtKind} (h : mgmtCommand c = some (m, f)) :
    payloadFits c = mgmtLengthOk m f.payload := by
  cases c <;> cases h
  case writeTable => exact Bool.eq_iff_iff.mpr (decide_eq_true_iff.trans mgmtLengthOk_writeTable_iff.symm)
  all_goals rfl

theorem sampleOf_of_not_fits (h : payloadFits (.sample f) = false) : sampleOf f.payload = none := by
  simp only [payloadFits, decide_eq_false_iff_not] at h
  unfold sampleOf
  dsimp only
  split
  · next hcard => exact if_neg fun hfits => h ⟨Nat.lt_succ_iff.mp hcard, hfits⟩
  · rfl

/-- Outside HALTED a frame's arrival is a reception, and a payload that does not meet its kind reads as nothing. -/
theorem exec_frame_receive (hc : commandFrame c = some (k, f)) (hrun : s.faults.halted = false) :
    ∃ (α : Type) (parse : List Byte → Option α) (handOn : α → State → State),
      exec c s = .next (receive k f parse handOn s) ∧ (payloadFits c = false → parse f.payload = none) := by
  cases hm : mgmtCommand c with
  | some mf =>
    obtain ⟨m, g⟩ := mf
    cases (commandFrame_of_mgmtCommand hm).symm.trans hc
    refine ⟨_, _, _, exec_of_mgmtCommand hm s, fun hfits => if_neg ?_⟩
    rw [← payloadFits_of_mgmtCommand hm, hfits]
    decide
  | none =>
    cases c with
    | sample g => cases hc; exact ⟨_, _, _, rfl, sampleOf_of_not_fits⟩
    | settle g => cases hc; exact ⟨_, _, _, rfl, fun hfits => if_neg (by simpa [payloadFits] using hfits)⟩
    | process g => cases hc; exact ⟨_, _, _, rfl, fun hfits => if_neg (by simpa [payloadFits] using hfits)⟩
    | resetLink g =>
      cases hc
      refine ⟨_, mgmtOf .resetLink, fun m s => linkReset m.tag s, congrArg Host.Outcome.next (if_neg (by simp [hrun])),
        fun hfits => if_neg ?_⟩
      simpa [payloadFits, mgmtLengthOk] using hfits
    | unknownKind b g => cases hc; exact ⟨_, _, _, rfl, fun _ => rfl⟩
    | powerOnReset | settlePass | normalEnd | longEnd | rearmEnd | readyLine | transmissionComplete => cases hc
    | _ => cases hm

theorem exec_frameCheck (hc : commandFrame c = some (k, f)) (hrun : s.faults.halted = false) (hcheck : checkOk k f = false) :
    exec c s = .next (reportFault .frameCheck (some k.toNat) s) := by
  obtain ⟨α, parse, handOn, hexec, -⟩ := exec_frame_receive hc hrun
  simp [hexec, receive, hrun, hcheck]

theorem exec_frameForm (hc : commandFrame c = some (k, f)) (hrun : s.faults.halted = false) (hcheck : checkOk k f = true)
    (hfits : payloadFits c = false) : exec c s = .next (reportFault .frameForm (some k.toNat) s) := by
  obtain ⟨α, parse, handOn, hexec, hparse⟩ := exec_frame_receive hc hrun
  simp [hexec, receive, hrun, hcheck, hparse hfits]

end

/-- Settles O14: a frame's arrival is a reception, whose two refusals are the two faults; the lengths are `mgmtLengthOk`
read out. -/
theorem frameErrorsAreReported : Obligations.FrameErrorsAreReported := by
  refine ⟨fun c k f s hc hrun => ⟨exec_frameCheck hc hrun, exec_frameForm hc hrun⟩, fun p => ?_⟩
  refine ⟨mgmtLengthOk_writeTable_iff, ?_, ?_, ?_, ?_⟩
  all_goals simp [mgmtLengthOk]

/-! ## The outlet that entry to HALTED leaves (R151, R161) -/

/-- The records and the buffer are empty, dense mode and its cut as in `s`. -/
def Emptied (s t : State) : Prop :=
  t.outlet.records = [] ∧ t.outlet.passBuffer = [] ∧ t.outlet.dense = s.outlet.dense ∧ t.outlet.cut = s.outlet.cut

namespace Emptied
variable {s t : State}

theorem arbitrate (h : Emptied s t) : Emptied s (arbitrate t) := by
  obtain ⟨hrecords, hbuffer, hdense, hcut⟩ := h
  refine ⟨?_, ?_, (arbitrate_dense t).trans hdense, (arbitrate_cut t).trans hcut⟩
  all_goals
    rw [arbitrate_outlet]
    split
    · rcases chooseNext_cases t.outlet with ⟨_, _, e⟩ | ⟨_, _, _, _, e⟩ | ⟨_, _, _, _, hr, e⟩ | ⟨_, _, _, _, _, hp, e⟩ |
        ⟨_, _, _, _, e⟩
      all_goals simp_all
    · assumption

theorem answerEach (as : List Answer) (h : Emptied s t) : Emptied s (answerEach as t) := by
  induction as generalizing t with
  | nil => exact h
  | cons a as ih => exact ih (t := answer a t) (arbitrate (t := t.onOutlet _) h)

theorem enterHalted (s : State) : Emptied s (enterHalted s) :=
  answerEach _ (answerEach (t := State.onController _ _) _ ⟨rfl, rfl, rfl, rfl⟩)

end Emptied

/-- Settles O16: the frame is reported, the slot makes the report the third, and each block is at its HALTED values by the
lemmas about `enterHalted`. -/
theorem thirdFaultHaltsThePart : Obligations.ThirdFaultHaltsThePart := by
  intro c k f s r hc hbad hrun hslot hsecond
  have hreport : ∃ code sel, exec c s = .next (reportFault code sel s) := by
    cases hcheck : checkOk k f with
    | false => exact ⟨_, _, exec_frameCheck hc hrun hcheck⟩
    | true => exact ⟨_, _, exec_frameForm hc hrun hcheck (hbad.resolve_left (by simp [hcheck]))⟩
  obtain ⟨code, sel, hexec⟩ := hreport
  rw [reportFault_third hrun hslot hsecond] at hexec
  generalize hu : (s.onOutlet fun o => { o with faultSlot := some { r with halted := true, cls := .abort } }) = u at hexec
  obtain ⟨hrecords, hbuffer, hdense, hcut⟩ := Emptied.enterHalted u
  refine ⟨enterHalted u, hexec, by simp [← hu], fun k' => by simp [Tracker.initial], by simp [Tracker.initial],
    by simp [Tracker.initial], by simp [Tracker.initial], by simp [Tracker.initial], fun d => by simp [darkUnit, ← hu],
    by simp, fun i => by simp, by simp [← hu], by simp [← hu], by simp [← hu], by simp [← hu], by simp [← hu], by simp,
    by simp [← hu], hrecords, hbuffer, hdense.trans (by simp [← hu]), hcut.trans (by simp [← hu]), ?_, by simp [← hu], by simp [← hu]⟩
  rw [answerTrail_enterHalted, ← hu]
  rfl

end Sys2Proof.Machine

/-! # Frames and table entries as bytes -/

namespace Sys2Proof.Machine

/-! ## Fields (chapter 12) -/

theorem length_natBE (w n : Nat) : (natBE w n).length = w := by
  induction w with
  | zero => rfl
  | succ w ih => simp [natBE, ih]

theorem beNat_cons (b : Byte) (bs : List Byte) : beNat (b :: bs) = b.toNat * 256 ^ bs.length + beNat bs := by
  have hfoldl (acc : Nat) : bs.foldl (fun acc b => acc * 256 + b.toNat) acc = acc * 256 ^ bs.length + beNat bs := by
    unfold beNat
    induction bs generalizing acc with
    | nil => simp
    | cons c cs ih =>
      simp only [List.foldl_cons, List.length_cons]
      rw [ih, ih (0 * 256 + c.toNat)]
      ring
  rw [beNat, List.foldl_cons, hfoldl]
  ring

theorem beNat_natBE (w n : Nat) : beNat (natBE w n) = n % 256 ^ w := by
  induction w with
  | zero => simp [natBE, beNat, Nat.mod_one]
  | succ w ih =>
    rw [natBE, beNat_cons, ih, length_natBE, BitVec.toNat_ofNat, show 2 ^ 8 = 256 from rfl, Nat.mod_pow_succ (b := 256),
      Nat.mul_comm, Nat.add_comm]

theorem beNat_lt (bs : List Byte) : beNat bs < 256 ^ bs.length := by
  induction bs with
  | nil => simp [beNat]
  | cons b bs ih =>
    rw [beNat_cons, List.length_cons, Nat.pow_succ]
    have := b.isLt
    have : b.toNat * 256 ^ bs.length ≤ 255 * 256 ^ bs.length := Nat.mul_le_mul_right _ (by omega)
    omega

theorem fieldAt_lt (bs : List Byte) (i w : Nat) : fieldAt bs i w < 256 ^ w := by
  refine (beNat_lt _).trans_le (Nat.pow_le_pow_right (by decide) ?_)
  simp

theorem fieldAt_natBE_append (w n : Nat) (bs : List Byte) : fieldAt (natBE w n ++ bs) 0 w = n % 256 ^ w := by
  rw [fieldAt, List.drop_zero, List.take_left' (length_natBE w n), beNat_natBE]

theorem fieldAt_natBE (w n : Nat) : fieldAt (natBE w n) 0 w = n % 256 ^ w := by
  simpa using fieldAt_natBE_append w n []

/-! ## Codes and ranges (R171) -/

theorem boolOf_eq_some_iff {n : Nat} {b : Bool} : boolOf n = some b ↔ n = boolCode b := by
  rcases n with _ | _ | n <;> cases b <;> simp [boolOf, boolCode]

theorem modeOf_eq_some_iff {n : Nat} {m : Mode} : modeOf n = some m ↔ n = modeCode m := by
  rcases n with _ | _ | _ | n <;> cases m <;> simp [modeOf, modeCode]

theorem cutTimingOf_eq_some_iff {n : Nat} {c : CutTiming} : cutTimingOf n = some c ↔ n = cutTimingCode c := by
  rcases n with _ | _ | n <;> cases c <;> simp [cutTimingOf, cutTimingCode]

theorem markSourceOf_eq_some_iff {n : Nat} {m : MarkSource} : markSourceOf n = some m ↔ n = markSourceCode m := by
  rcases n with _ | _ | _ | _ | _ | _ | _ | n <;> cases m <;> simp [markSourceOf, markSourceCode]

theorem inRange_eq_some_iff {lo hi n v : Nat} : inRange lo hi n = some v ↔ n = v ∧ lo ≤ v ∧ v ≤ hi := by
  unfold inRange
  split
  · next h => exact ⟨fun e => by cases e; exact ⟨rfl, h⟩, fun ⟨e, _⟩ => congrArg some e⟩
  · next h => exact ⟨fun e => (by cases e), fun ⟨e, h'⟩ => absurd (e ▸ h') h⟩

theorem chanOf_eq_some_iff {n : Nat} {c : Chan} : chanOf n = some c ↔ n = c.val := by
  unfold chanOf
  split
  · simp [Fin.ext_iff]
  · next h => exact ⟨fun e => (by cases e), fun e => absurd (e ▸ c.isLt) h⟩

theorem gainOf_signed8_eq_some_iff {n : Nat} {g : Int} (hn : n < 256) :
    gainOf (signed8 n) = some g ↔ (n : Int) = (if g < 0 then g + 256 else g) ∧ -20 ≤ g ∧ g ≤ 40 := by
  unfold gainOf signed8
  constructor
  · intro h
    split_ifs at h <;> cases h <;> refine ⟨?_, ?_, ?_⟩ <;> (try split_ifs) <;> omega
  · rintro ⟨h, hlo, hhi⟩
    have hsigned : (if n < 128 then (n : Int) else n - 256) = g := by split_ifs at * <;> omega
    rw [hsigned, if_pos ⟨hlo, hhi⟩]

theorem boolCode_lt (b : Bool) : boolCode b < 2 := by cases b <;> decide

theorem modeCode_lt (m : Mode) : modeCode m < 3 := by cases m <;> decide

theorem cutTimingCode_lt (c : CutTiming) : cutTimingCode c < 2 := by cases c <;> decide

theorem markSourceCode_lt (m : MarkSource) : markSourceCode m < 7 := by cases m <;> decide

/-- Sets with the same members are one. -/
theorem CondSet.ext_has {a b : CondSet} (h : ∀ d, a.has d = b.has d) : a = b := by
  obtain ⟨a0, a1, a2, a3, a4, a5, a6, a7, a8⟩ := a
  obtain ⟨b0, b1, b2, b3, b4, b5, b6, b7, b8⟩ := b
  exact CondSet.mk.injEq .. ▸ ⟨h .denseEntered, h .recordLoss, h .passLoss, h .arrivalOverflow, h .eventOverflow,
    h .holdActive, h .rupture, h .pressureStale, h .mgmtOverrun⟩

theorem condSetOfBits_bits (set : CondSet) : condSetOfBits set.bits = set :=
  CondSet.ext_has fun d => by rw [has_condSetOfBits, CondSet.testBit_bits]

/-! ## Table entries (R127 to R130, R172) -/

/-- The fields of a channel entry at their offsets. -/
def ChannelAt (bs : List Byte) (e : ChannelEntry) : Prop :=
  fieldAt bs 0 1 = modeCode e.mode ∧ fieldAt bs 1 2 = e.threshold ∧
  (fieldAt bs 3 1 : Int) = (if e.gain < 0 then e.gain + 256 else e.gain) ∧ fieldAt bs 4 2 = e.delay ∧
  fieldAt bs 6 2 = e.quiet ∧ fieldAt bs 8 2 = e.peakWindow ∧ fieldAt bs 10 2 = e.rearm ∧ fieldAt bs 12 3 = e.limit ∧
  fieldAt bs 15 1 = e.shift ∧ fieldAt bs 16 1 = boolCode e.forward

theorem channelEntryOf_eq_some_iff {bs : List Byte} {e : ChannelEntry} :
    channelEntryOf bs = some e ↔ ChannelAt bs e ∧ channelEntryOk e := by
  have hgain : fieldAt bs 3 1 < 256 := fieldAt_lt bs 3 1
  simp only [channelEntryOf, Option.bind_eq_bind, Option.bind_eq_some_iff, Option.pure_def, Option.some_inj,
    modeOf_eq_some_iff, inRange_eq_some_iff, gainOf_signed8_eq_some_iff hgain, boolOf_eq_some_iff]
  constructor
  · rintro ⟨m, hm, t, ht, g, hg, d, hd, q, hq, p, hp, r, hr, l, hl, sh, hs, f, hf, rfl⟩
    exact ⟨⟨hm, ht.1, hg.1, hd.1, hq.1, hp.1, hr.1, hl.1, hs.1, hf⟩, ht.2.1, ht.2.2, hg.2.1, hg.2.2, hd.2.2, hq.2.1, hq.2.2,
      hp.2.1, hp.2.2, hr.2.2, hl.2.1, hl.2.2, hs.2.2⟩
  · rintro ⟨⟨hm, ht, hg, hd, hq, hp, hr, hl, hs, hf⟩, t1, t2, g1, g2, d2, q1, q2, p1, p2, r2, l1, l2, s2⟩
    exact ⟨_, hm, _, ⟨ht, t1, t2⟩, _, ⟨hg, g1, g2⟩, _, ⟨hd, Nat.zero_le _, d2⟩, _, ⟨hq, q1, q2⟩, _, ⟨hp, p1, p2⟩, _,
      ⟨hr, Nat.zero_le _, r2⟩, _, ⟨hl, l1, l2⟩, _, ⟨hs, Nat.zero_le _, s2⟩, _, hf, rfl⟩

theorem length_channelEntryBytes (e : ChannelEntry) : (channelEntryBytes e).length = 17 := by
  simp [channelEntryBytes, length_natBE]

theorem channelAt_channelEntryBytes {e : ChannelEntry} (h : channelEntryOk e) : ChannelAt (channelEntryBytes e) e := by
  have hm := modeCode_lt e.mode
  have hf := boolCode_lt e.forward
  obtain ⟨t1, t2, g1, g2, d2, q1, q2, p1, p2, r2, l1, l2, s2⟩ := h
  refine ⟨?_, ?_, ?_, ?_, ?_, ?_, ?_, ?_, ?_, ?_⟩
  case refine_3 =>
    simp [fieldAt, channelEntryBytes, natBE, beNat]
    split_ifs <;> omega
  all_goals
    simp [fieldAt, channelEntryBytes, natBE, beNat]
    omega

/-- The fields of a pair entry at their offsets. -/
def PairAt (bs : List Byte) (e : PairEntry) : Prop :=
  fieldAt bs 0 1 = boolCode e.valid ∧ fieldAt bs 1 1 = e.a.val ∧ fieldAt bs 2 1 = e.b.val ∧ fieldAt bs 3 2 = e.spacing ∧
  fieldAt bs 5 2 = e.velocity

theorem pairEntryOf_eq_some_iff {bs : List Byte} {e : PairEntry} :
    pairEntryOf bs = some e ↔ PairAt bs e ∧ pairEntryOk e := by
  have hdiffer (v : Bool) (a b : Chan) : (v && a == b) = true ↔ ¬(v = true → a ≠ b) := by
    simp
  simp only [pairEntryOf, Option.bind_eq_bind, Option.bind_eq_some_iff, Option.pure_def, inRange_eq_some_iff,
    boolOf_eq_some_iff, chanOf_eq_some_iff, hdiffer, ite_not, Option.ite_none_right_eq_some, Option.some_inj]
  constructor
  · rintro ⟨v, hv, a, ha, b, hb, s, hs, w, hw, hne, rfl⟩
    exact ⟨⟨hv, ha, hb, hs.1, hw.1⟩, hs.2.1, hs.2.2, hw.2.1, hw.2.2, hne⟩
  · rintro ⟨⟨hv, ha, hb, hs, hw⟩, s1, s2, w1, w2, hne⟩
    exact ⟨_, hv, _, ha, _, hb, _, ⟨hs, s1, s2⟩, _, ⟨hw, w1, w2⟩, hne, rfl⟩

theorem length_pairEntryBytes (e : PairEntry) : (pairEntryBytes e).length = 7 := by
  simp [pairEntryBytes, length_natBE]

theorem pairAt_pairEntryBytes {e : PairEntry} (h : pairEntryOk e) : PairAt (pairEntryBytes e) e := by
  have hv := boolCode_lt e.valid
  have ha := e.a.isLt
  have hb := e.b.isLt
  obtain ⟨s1, s2, w1, w2, -⟩ := h
  refine ⟨?_, ?_, ?_, ?_, ?_⟩
  all_goals
    simp [fieldAt, pairEntryBytes, natBE, beNat]
    omega

theorem levelOf_eq_some_iff {bs : List Byte} {l : Nat} : levelOf bs = some l ↔ fieldAt bs 0 2 = l ∧ l ≤ 32768 :=
  inRange_eq_some_iff.trans (and_congr_right fun _ => and_iff_right (Nat.zero_le l))

theorem fieldAt_natBE_two {l : Nat} (h : l ≤ 32768) : fieldAt (natBE 2 l) 0 2 = l := by
  rw [fieldAt_natBE]
  omega

theorem markSpecOf_eq_some_iff {source parameter : Nat} {m : MarkSpec} : markSpecOf source parameter = some m ↔
    source = markSourceCode m.source ∧ parameter = m.parameter ∧ m.parameter ≤ 16777215 := by
  simp only [markSpecOf, Option.bind_eq_bind, Option.bind_eq_some_iff, Option.pure_def, Option.some_inj,
    markSourceOf_eq_some_iff, inRange_eq_some_iff]
  constructor
  · rintro ⟨_, hs, _, hp, rfl⟩
    exact ⟨hs, hp.1, hp.2.2⟩
  · rintro ⟨hs, hp, hle⟩
    exact ⟨_, hs, _, ⟨hp, Nat.zero_le _, hle⟩, rfl⟩

/-- The fields of the TEST table at their offsets. -/
def TestAt (bs : List Byte) (t : TestTable) : Prop :=
  fieldAt bs 0 2 = t.window ∧ fieldAt bs 2 3 = t.span ∧ fieldAt bs 5 1 = t.quorum ∧ fieldAt bs 6 2 = t.high ∧
  fieldAt bs 8 2 = t.low ∧ fieldAt bs 10 1 = cutTimingCode t.cutTiming ∧ fieldAt bs 11 2 = t.holdLimit ∧
  fieldAt bs 13 1 = t.onsetCount ∧ t.reportMask = condSetOfBits (fieldAt bs 14 2) ∧
  fieldAt bs 16 1 = markSourceCode t.mark0.source ∧ fieldAt bs 17 3 = t.mark0.parameter ∧
  fieldAt bs 20 1 = markSourceCode t.mark1.source ∧ fieldAt bs 21 3 = t.mark1.parameter

theorem testTableOf_eq_some_iff {bs : List Byte} {t : TestTable} :
    testTableOf bs = some t ↔ TestAt bs t ∧ testTableOk t := by
  simp only [testTableOf, Option.bind_eq_bind, Option.bind_eq_some_iff, Option.pure_def, Option.some_inj,
    cutTimingOf_eq_some_iff, inRange_eq_some_iff, markSpecOf_eq_some_iff]
  constructor
  · rintro ⟨w, hw, s, hs, q, hq, h, hh, l, hl, c, hc, d, hd, o, ho, m, hm, n, hn, rfl⟩
    exact ⟨⟨hw.1, hs.1, hq.1, hh.1, hl.1, hc, hd.1, ho.1, rfl, hm.1, hm.2.1, hn.1, hn.2.1⟩, hw.2.1, hw.2.2, hs.2.2, hq.2.1,
      hq.2.2, hh.2.1, hh.2.2, hl.2.2, hd.2.2, ho.2.1, ho.2.2, hm.2.2, hn.2.2⟩
  · rintro ⟨⟨hw, hs, hq, hh, hl, hc, hd, ho, hr, hm, hm', hn, hn'⟩, w1, w2, s2, q1, q2, h1, h2, l2, d2, o1, o2, m2, n2⟩
    refine ⟨_, ⟨hw, w1, w2⟩, _, ⟨hs, Nat.zero_le _, s2⟩, _, ⟨hq, q1, q2⟩, _, ⟨hh, h1, h2⟩, _, ⟨hl, Nat.zero_le _, l2⟩, _, hc,
      _, ⟨hd, Nat.zero_le _, d2⟩, _, ⟨ho, o1, o2⟩, _, ⟨hm, hm', m2⟩, _, ⟨hn, hn', n2⟩, ?_⟩
    rw [← hr]

theorem length_testTableBytes (t : TestTable) : (testTableBytes t).length = 24 := by
  simp [testTableBytes, markSpecBytes, length_natBE]

theorem testAt_testTableBytes {t : TestTable} (h : testTableOk t) : TestAt (testTableBytes t) t := by
  have hc := cutTimingCode_lt t.cutTiming
  have hr := t.reportMask.bits_lt
  have hm := markSourceCode_lt t.mark0.source
  have hn := markSourceCode_lt t.mark1.source
  obtain ⟨w1, w2, s2, q1, q2, h1, h2, l2, d2, o1, o2, m2, n2⟩ := h
  have hmask : fieldAt (testTableBytes t) 14 2 = t.reportMask.bits := by
    simp [fieldAt, testTableBytes, markSpecBytes, natBE, beNat]
    omega
  refine ⟨?_, ?_, ?_, ?_, ?_, ?_, ?_, ?_, hmask ▸ (condSetOfBits_bits _).symm, ?_, ?_, ?_, ?_⟩
  all_goals
    simp [fieldAt, testTableBytes, markSpecBytes, natBE, beNat]
    omega

/-- Settles O54: bytes read as an entry exactly when its fields stand in them, in range, and the bytes sent hold them. -/
theorem tableEntriesReadBack : Obligations.TableEntriesReadBack := by
  refine ⟨fun e h => channelEntryOf_eq_some_iff.mpr ⟨channelAt_channelEntryBytes h, h⟩,
    fun e h => pairEntryOf_eq_some_iff.mpr ⟨pairAt_pairEntryBytes h, h⟩,
    fun l h => levelOf_eq_some_iff.mpr ⟨fieldAt_natBE_two h, h⟩,
    fun t h => testTableOf_eq_some_iff.mpr ⟨testAt_testTableBytes h, h⟩, ?_⟩
  intro flag modeNumber timing source channelAt pairAt testAt
  have hflag : flag = boolCode := funext fun b => by cases b <;> rfl
  have hmode : modeNumber = modeCode := funext fun m => by cases m <;> rfl
  have htiming : timing = cutTimingCode := funext fun c => by cases c <;> rfl
  have hsource : source = markSourceCode := funext fun m => by cases m <;> rfl
  have hchannel : channelAt = ChannelAt := by simp only [channelAt, hflag, hmode]; rfl
  have hpair : pairAt = PairAt := by simp only [pairAt, hflag]; rfl
  have htest : testAt = TestAt := by simp only [testAt, htiming, hsource]; rfl
  rw [hchannel, hpair, htest]
  exact ⟨fun _ _ => channelEntryOf_eq_some_iff, fun e h => ⟨length_channelEntryBytes e, channelAt_channelEntryBytes h⟩,
    fun _ _ => pairEntryOf_eq_some_iff, fun e h => ⟨length_pairEntryBytes e, pairAt_pairEntryBytes h⟩,
    fun _ _ => levelOf_eq_some_iff, fun l h => ⟨length_natBE 2 l, fieldAt_natBE_two h⟩,
    fun _ _ => testTableOf_eq_some_iff, fun t h => ⟨length_testTableBytes t, testAt_testTableBytes h⟩⟩

/-! ## Frames on the inlet link (R170) -/

theorem linkCommand_cons (k hi lo : Byte) (rest : List Byte) : linkCommand (k :: hi :: lo :: rest) =
    if rest.length = beNat [hi, lo] + 2 then
      some (frameCommand k { payload := rest.take (beNat [hi, lo]),
                             check := BitVec.ofNat 16 (beNat (rest.drop (beNat [hi, lo]))) })
    else none := rfl

/-- The bytes of a frame whose payload fits the length field are read as that frame. -/
theorem linkCommand_frameBytes {k : Byte} {f : Frame} (h : f.payload.length < 65536) :
    linkCommand (frameBytes k f) = some (frameCommand k f) := by
  have hlen : beNat (natBE 2 f.payload.length) = f.payload.length := by rw [beNat_natBE]; omega
  have hcheck : BitVec.ofNat 16 (beNat (natBE 2 f.check.toNat)) = f.check := by
    rw [beNat_natBE]
    exact BitVec.eq_of_toNat_eq (by have := f.check.isLt; simp; omega)
  have hbytes : frameBytes k f = k :: (natBE 2 f.payload.length ++ (f.payload ++ natBE 2 f.check.toNat)) := by
    simp [frameBytes, envelopeHead]
  have hrest : (f.payload ++ natBE 2 f.check.toNat).length = f.payload.length + 2 := by
    rw [List.length_append, length_natBE]
  obtain ⟨hi, lo, e⟩ := List.length_eq_two.mp (length_natBE 2 f.payload.length)
  rw [e] at hlen
  rw [hbytes, e, List.cons_append, List.cons_append, List.nil_append, linkCommand_cons, hlen, if_pos hrest,
    List.take_left, List.drop_left, hcheck]

theorem wellFormed_fits {c : Instr} {k : Byte} {f : Frame} (hc : commandFrame c = some (k, f)) (h : wellFormed c = true) :
    f.payload.length < 65536 := by
  have hfits : frameFits f = true := by
    cases c with
    | arm | ramp | hold | unload | mute | unmute | swap | await | finish | unknownKind =>
      cases hc
      exact (Bool.and_eq_true_iff.mp h).1
    | sample | settle | process | identify | writeTable | readTable | readState | setMark | dropOrders
    | clearConditions | resetLink =>
      cases hc
      exact h
    | powerOnReset | settlePass | normalEnd | longEnd | rearmEnd | readyLine | transmissionComplete => cases hc
  simpa [frameFits] using hfits

theorem link_statement (c : Instr) : Laws.Link.Statement c := by
  cases c with
  | powerOnReset => exact Laws.Link.powerOnReset
  | sample f => exact Laws.Link.sample f
  | settle f => exact Laws.Link.settle f
  | process f => exact Laws.Link.process f
  | settlePass => exact Laws.Link.settlePass
  | normalEnd d => exact Laws.Link.normalEnd d
  | longEnd d => exact Laws.Link.longEnd d
  | rearmEnd d => exact Laws.Link.rearmEnd d
  | readyLine level => exact Laws.Link.readyLine level
  | transmissionComplete => exact Laws.Link.transmissionComplete
  | identify f => exact Laws.Link.identify f
  | writeTable f => exact Laws.Link.writeTable f
  | readTable f => exact Laws.Link.readTable f
  | readState f => exact Laws.Link.readState f
  | setMark f => exact Laws.Link.setMark f
  | dropOrders f => exact Laws.Link.dropOrders f
  | clearConditions f => exact Laws.Link.clearConditions f
  | resetLink f => exact Laws.Link.resetLink f
  | arm f => exact Laws.Link.arm f
  | ramp f => exact Laws.Link.ramp f
  | hold f => exact Laws.Link.hold f
  | unload f => exact Laws.Link.unload f
  | mute f => exact Laws.Link.mute f
  | unmute f => exact Laws.Link.unmute f
  | swap f => exact Laws.Link.swap f
  | await f => exact Laws.Link.await f
  | finish f => exact Laws.Link.finish f
  | unknownKind k f => exact Laws.Link.unknownKind k f

/-- Settles O53: the bytes are read as the frame, and the frame under its kind names the command. -/
theorem linkReadsBackEveryFrame : Obligations.LinkReadsBackEveryFrame := by
  intro c k f hc hw horder
  rw [linkBytes, hc]
  exact (linkCommand_frameBytes (wellFormed_fits hc hw)).trans (congrArg some (link_statement c k f hc hw horder))

end Sys2Proof.Machine

/-! # Offers to the record queue and to pass-through -/

namespace Sys2Proof.Machine

/-! ## The disposition of a record (R145, R149, R151) -/

section
variable {r : Record} {s : State}

/-- HIT and EVENT records have their own limit (R145). -/
theorem recordLimit_eq (r : Record) : recordLimit r = if isDataRecord r then 496 else 512 := by cases r <;> rfl

theorem disposition_halted (h : s.faults.halted = true) : disposition r s = .discarded := if_pos h

/-- Neither suppressed nor discarded in dense mode, a record goes by its limit. -/
theorem disposition_running (h : s.faults.halted = false) (hhit : ∀ x, r = .hit x → s.outlet.dense = false)
    (hevent : ∀ x, r = .event x → s.outlet.dense = true → x.cls = .normal) :
    disposition r s = if s.outlet.records.length < recordLimit r then .admitted else .dropped := by
  unfold disposition
  rw [if_neg (by simp [h])]
  cases r with
  | hit x => simp [hhit x rfl]
  | event x =>
    cases hdense : s.outlet.dense with
    | false => simp
    | true => simp [hevent x rfl hdense]
  | _ => rfl

theorem offerRecord_discarded (h : disposition r s = .discarded) : offerRecord r s = arbitrate s := by
  simp only [offerRecord, offerDepth, h]

theorem offerRecord_suppressed (h : disposition r s = .suppressed) :
    offerRecord r s = arbitrate (onCounters (fun c => { c with suppressed := countOn c.suppressed }) s) := by
  simp only [offerRecord, offerDepth, h]

theorem entersDense_pushRecord_iff : entersDense (pushRecord r s) = true ↔
    s.outlet.dense = false ∧ s.active.test.high ≤ s.outlet.records.length + 1 := by
  simp [entersDense, pushRecord]

theorem offerDepth_admitted {d : Nat} (h : disposition r s = .admitted) (hdense : entersDense (pushRecord r s) = false) :
    offerDepth (d + 1) r s = pushRecord r s := by
  simp only [offerDepth, h, hdense]
  rfl

theorem offerDepth_enters {d : Nat} (h : disposition r s = .admitted) (hdense : entersDense (pushRecord r s) = true) :
    offerDepth (d + 1) r s = enterDense (offerDepth d) (pushRecord r s) := by
  simp only [offerDepth, h, hdense]
  rfl

theorem offerDepth_dropped {d : Nat} (h : disposition r s = .dropped) :
    offerDepth (d + 1) r s = raiseWith (offerDepth d) .recordLoss (onCounters (countDropped r) s) := by
  simp only [offerDepth, h]

end

/-! ## How deep a report of a report goes

With RECORD-LOSS pending a dropped record raises nothing, and in dense mode an admitted one does not enter it: after these
two no further offer follows. -/

theorem raiseWith_congr {offer offer' : Record → State → State} {c : Condition} {s : State}
    (h : ∀ r, offer r (s.onFaults fun u => { u with pendingSet := u.pendingSet.insert c }) =
      offer' r (s.onFaults fun u => { u with pendingSet := u.pendingSet.insert c })) :
    raiseWith offer c s = raiseWith offer' c s := by
  unfold raiseWith
  dsimp only
  rw [h]

section
variable {r : Record} {s : State}

theorem entersDense_of_dense (h : s.outlet.dense = true) : entersDense (pushRecord r s) = false := by
  simp [entersDense, pushRecord, h]

theorem offerDepth_of_dense_pending (d : Nat) (hdense : s.outlet.dense = true)
    (hloss : s.faults.pendingSet.has .recordLoss = true) : offerDepth (d + 1) r s = offerDepth 1 r s := by
  have hloss (f : Counters → Counters) : (onCounters f s).faults.pendingSet.has .recordLoss = true := hloss
  cases h : disposition r s with
  | admitted =>
    rw [offerDepth_admitted h (entersDense_of_dense hdense), offerDepth_admitted h (entersDense_of_dense hdense)]
  | dropped =>
    rw [offerDepth_dropped h, offerDepth_dropped h, raiseWith_pending (hloss _), raiseWith_pending (hloss _)]
  | suppressed | discarded => simp only [offerDepth, h]

theorem offerDepth_of_pending (d : Nat) (hloss : s.faults.pendingSet.has .recordLoss = true) :
    offerDepth (d + 2) r s = offerDepth 2 r s := by
  have hcounted (f : Counters → Counters) : (onCounters f s).faults.pendingSet.has .recordLoss = true := hloss
  cases h : disposition r s with
  | admitted =>
    cases hdense : entersDense (pushRecord r s) with
    | true =>
      rw [offerDepth_enters h hdense, offerDepth_enters h hdense]
      refine raiseWith_congr fun r' => offerDepth_of_dense_pending d ?_ ?_
      · simp only [setMarks, State.onController_outlet, State.onFaults_outlet, State.onOutlet_outlet]
        split <;> rfl
      · rw [State.onFaults_faults, CondSet.has_insert]
        exact Bool.or_eq_true_iff.mpr (.inr hloss)
    | false => rw [offerDepth_admitted h hdense, offerDepth_admitted h hdense]
  | dropped =>
    rw [offerDepth_dropped h, offerDepth_dropped h, raiseWith_pending (hcounted _), raiseWith_pending (hcounted _)]
  | suppressed | discarded => simp only [offerDepth, h]

/-- A dropped record is counted by its kind, and RECORD-LOSS is raised (R145). -/
theorem offerRecord_dropped (h : disposition r s = .dropped) :
    offerRecord r s = raise .recordLoss (onCounters (countDropped r) s) := by
  rw [offerRecord, offerDepth_dropped h, raise]
  refine congrArg arbitrate (raiseWith_congr fun r' => (offerDepth_of_pending 1 ?_).symm)
  simp

theorem offerRecord_admitted (h : disposition r s = .admitted) (hdense : entersDense (pushRecord r s) = false) :
    offerRecord r s = arbitrate (pushRecord r s) := by
  rw [offerRecord, offerDepth_admitted h hdense]

end

/-! ## Entry to dense mode (R148) -/

/-- In dense mode no offer sets a mark. -/
theorem offerDepth_marks_of_dense (d : Nat) (r : Record) {s : State} (h : s.outlet.dense = true) :
    (offerDepth d r s).controller.mark0 = s.controller.mark0 ∧ (offerDepth d r s).controller.mark1 = s.controller.mark1 := by
  induction d generalizing r s with
  | zero => exact ⟨rfl, rfl⟩
  | succ d ih =>
    cases hd : disposition r s with
    | admitted =>
      rw [offerDepth_admitted hd (entersDense_of_dense h)]
      exact ⟨rfl, rfl⟩
    | dropped =>
      rw [offerDepth_dropped hd]
      unfold raiseWith
      dsimp only
      split_ifs
      · exact ⟨rfl, rfl⟩
      · exact ih _ h
      · exact ih _ h
      · exact ⟨rfl, rfl⟩
    | suppressed | discarded => simp [offerDepth, hd, onCounters]

theorem raiseWith_marks_of_dense (d : Nat) (c : Condition) {s : State} (h : s.outlet.dense = true) :
    (raiseWith (offerDepth d) c s).controller.mark0 = s.controller.mark0 ∧
    (raiseWith (offerDepth d) c s).controller.mark1 = s.controller.mark1 := by
  unfold raiseWith
  dsimp only
  split_ifs
  · exact ⟨rfl, rfl⟩
  · exact offerDepth_marks_of_dense d _ h
  · exact offerDepth_marks_of_dense d _ h
  · exact ⟨rfl, rfl⟩

/-- The part as it enters dense mode, before DENSE-ENTERED is raised. -/
def denseBegun (s : State) : State :=
  setMarks denseHolds (s.onOutlet fun o =>
    match s.active.test.cutTiming with
    | .immediate => { o with dense := true, cut := .cut, passBuffer := [] }
    | .atSettle => { o with dense := true, cut := .pending })

theorem enterDense_eq (offer : Record → State → State) (s : State) :
    enterDense offer s = raiseWith offer .denseEntered (denseBegun s) := rfl

section
variable {r : Record} {s : State}

theorem offerRecord_enters (h : disposition r s = .admitted) (hdense : entersDense (pushRecord r s) = true) :
    offerRecord r s = arbitrate (raiseWith (offerDepth 2) .denseEntered (denseBegun (pushRecord r s))) := by
  rw [offerRecord, offerDepth_enters h hdense, enterDense_eq]

theorem denseBegun_outlet (s : State) : (denseBegun s).outlet =
    match s.active.test.cutTiming with
    | .immediate => { s.outlet with dense := true, cut := .cut, passBuffer := [] }
    | .atSettle => { s.outlet with dense := true, cut := .pending } := rfl

theorem denseBegun_dense (s : State) : (denseBegun s).outlet.dense = true := by
  rw [denseBegun_outlet]
  split <;> rfl

theorem denseBegun_records (s : State) : (denseBegun s).outlet.records = s.outlet.records := by
  rw [denseBegun_outlet]
  split <;> rfl

theorem recordTrail_denseBegun (s : State) : recordTrail (denseBegun s).outlet = recordTrail s.outlet := by
  rw [denseBegun_outlet]
  split <;> rfl

/-- What entry to dense mode makes of the outlet, the marks and the flags. -/
theorem offerRecord_enters_fields (h : disposition r s = .admitted) (hdense : entersDense (pushRecord r s) = true) :
    (offerRecord r s).outlet.dense = true ∧
    (offerRecord r s).outlet.cut = (denseBegun (pushRecord r s)).outlet.cut ∧
    (offerRecord r s).outlet.passBuffer = (denseBegun (pushRecord r s)).outlet.passBuffer ∧
    (offerRecord r s).controller.counters.passLost = s.controller.counters.passLost ∧
    (offerRecord r s).controller.mark0 = (s.controller.mark0 || denseHolds s.active.test.mark0) ∧
    (offerRecord r s).controller.mark1 = (s.controller.mark1 || denseHolds s.active.test.mark1) ∧
    (offerRecord r s).faults.pendingSet.has .denseEntered = true ∧
    recordTrail (pushRecord r s).outlet <+: recordTrail (offerRecord r s).outlet := by
  rw [offerRecord_enters h hdense]
  have hbegun : (denseBegun (pushRecord r s)).outlet.dense = true := denseBegun_dense _
  have hraised := Offered.raiseWith (Offered.offerDepth 2) .denseEntered (denseBegun (pushRecord r s))
  obtain ⟨hdense, hcut, hbuffer⟩ := hraised.dense hbegun
  obtain ⟨hmark0, hmark1⟩ := raiseWith_marks_of_dense 2 .denseEntered hbegun
  have hnonempty : (raiseWith (offerDepth 2) .denseEntered (denseBegun (pushRecord r s))).outlet.records ≠ [] := by
    obtain ⟨more, e⟩ := hraised.records
    rw [e, denseBegun_records]
    simp [pushRecord]
  refine ⟨(arbitrate_dense _).trans hdense, (arbitrate_cut _).trans hcut, (arbitrate_passBuffer hnonempty).trans hbuffer,
    ?_, ?_, ?_, ?_, ?_⟩
  · rw [arbitrate_controller]
    exact raiseWith_passLost (offerDepth_passLost 2) _ _
  · rw [arbitrate_controller]
    exact hmark0
  · rw [arbitrate_controller]
    exact hmark1
  · rw [arbitrate_faults]
    exact raiseWith_pends (Offered.offerDepth 2) _ _
  · rw [recordTrail_arbitrate, ← recordTrail_denseBegun (pushRecord r s)]
    exact hraised.recordTrail

end

/-- Settles O12: the disposition decides, and entry to dense mode is `denseBegun` with DENSE-ENTERED raised. -/
theorem recordOffers : Obligations.RecordOffers := by
  refine ⟨fun r s h => offerRecord_discarded (disposition_halted h), fun r s h hdense => offerRecord_suppressed ?_,
    fun r s h hdense hcls => offerRecord_discarded ?_, fun r s h hhit hevent => ?_⟩
  · simp [disposition, h, hdense]
  · simp [disposition, h, hdense, hcls]
  · intro limit admitted
    have hdisp : disposition r s = if s.outlet.records.length < limit then .admitted else .dropped :=
      (disposition_running h hhit hevent).trans (by rw [recordLimit_eq])
    refine ⟨fun hfull => ?_, fun hroom hstays => ?_, fun hroom hdense hhigh => ?_⟩
    · rw [if_neg (Nat.not_lt.mpr hfull)] at hdisp
      rw [offerRecord_dropped hdisp]
      cases r <;> rfl
    · rw [if_pos hroom] at hdisp
      refine offerRecord_admitted hdisp (Bool.eq_false_iff.mpr fun henters => ?_)
      obtain ⟨hoff, hhigh⟩ := entersDense_pushRecord_iff.mp henters
      rcases hstays with hdense | hlow
      · exact Bool.false_ne_true (hoff.symm.trans hdense)
      · omega
    · rw [if_pos hroom] at hdisp
      obtain ⟨hon, hcut, hbuffer, hlost, hmark0, hmark1, hpending, htrail⟩ :=
        offerRecord_enters_fields hdisp (entersDense_pushRecord_iff.mpr ⟨hdense, hhigh⟩)
      have htiming : (pushRecord r s).active.test.cutTiming = s.active.test.cutTiming := rfl
      refine ⟨hon, fun ht => ?_, fun ht => ?_, hlost, hmark0, hmark1, hpending, htrail⟩
      all_goals
        rw [hcut, hbuffer, denseBegun_outlet, htiming, ht]
        exact ⟨rfl, rfl⟩

/-! ## The offer to pass-through (R3, R147) -/

theorem cardForwards_iff {k : Card} {channels : Vector ChannelEntry 32} :
    cardForwards k channels = true ↔ ∃ l : Fin 8, channels[laneChan k l].forward = true := by
  simp [cardForwards, cardChans]

/-- Settles O11: the offer's three outcomes and the card's entries are read off `offerPass` and `offerSample`. -/
theorem passThroughOffer : Obligations.PassThroughOffer := by
  refine ⟨fun p s h => ?_, fun p s h => ?_, fun p s h hcut hfull => ?_, fun p s h hcut hroom => ?_, fun f k s h => ?_,
    fun f k s h => ?_, fun f x s => exec_sample_of_framePasses, fun f s => exec_settle_of_framePasses⟩
  · simp [offerPass, h]
  · simp [offerPass, h]
  · have hfull : Config.passCapacity ≤ s.outlet.passBuffer.length := hfull
    rw [offerPass, if_neg (by simp [h, hcut]), if_pos hfull]
    rfl
  · have hroom : ¬Config.passCapacity ≤ s.outlet.passBuffer.length := Nat.not_le.mpr hroom
    simp [offerPass, h, hcut, hroom, State.onOutlet]
  · exact if_pos (cardForwards_iff.mpr h)
  · refine if_neg fun hforwards => ?_
    obtain ⟨l, hl⟩ := cardForwards_iff.mp hforwards
    exact Bool.false_ne_true ((h l).symm.trans hl)

end Sys2Proof.Machine

/-! # The tick tracker -/

namespace Sys2Proof.Machine

theorem Reported.offerSample (f : Frame) (k : Card) (s : State) : Reported s (offerSample f k s) := by
  unfold Machine.offerSample
  split
  · exact .offerPass _ s
  · exact .refl s

/-! ## The verdict on a SAMPLE frame (R7) -/

section
variable {last expected : Option Tick} {start n : Nat}

theorem sampleVerdict_overlap (h : (∃ b, last = some b ∧ start + n ≤ b) ∨ (∃ e, expected = some e ∧ start < e) ∨
    ∃ b, expected = none ∧ last = some b ∧ start < b) : sampleVerdict last expected start n = .overlap := by
  unfold sampleVerdict
  rcases h with ⟨b, rfl, hb⟩ | ⟨e, rfl, he⟩ | ⟨b, rfl, rfl, hb⟩
  · simp [hb]
  · simp [he, he.ne]
  · simp [Nat.not_le.mpr hb]

theorem sampleVerdict_taken (hlast : ∀ b, last = some b → b < start + n)
    (h : expected = some start ∨ (expected = none ∧ ∀ b, last = some b → b ≤ start)) :
    sampleVerdict last expected start n = .taken := by
  unfold sampleVerdict
  cases last with
  | none => rcases h with rfl | ⟨rfl, -⟩ <;> simp
  | some b =>
    have hb := Nat.not_le.mpr (hlast b rfl)
    rcases h with rfl | ⟨rfl, h⟩
    · simp [hb]
    · simp [hb, h b rfl]

theorem sampleVerdict_gap {e : Tick} (hlast : ∀ b, last = some b → b < start + n) (he : expected = some e)
    (h : e < start) : sampleVerdict last expected start n = .gap := by
  unfold sampleVerdict
  subst he
  cases last with
  | none => simp [h.ne', h.not_gt]
  | some b => simp [h.ne', h.not_gt, Nat.not_le.mpr (hlast b rfl)]

end

section
variable {x : SampleFrame} {s : State}

theorem trackSample_overlap (hphase : s.controller.phase ≠ .idle)
    (h : sampleVerdict s.tracker.last s.tracker.expected[x.card] x.start x.sets.length = .overlap) :
    trackSample x s = reportFault .tickOverlap (some x.card.val) s := by
  rw [trackSample, if_neg hphase, h]

theorem trackSample_taken (hphase : s.controller.phase ≠ .idle)
    (h : sampleVerdict s.tracker.last s.tracker.expected[x.card] x.start x.sets.length = .taken) :
    trackSample x s = sampleTaken x (drainCard x.card s) := by
  rw [trackSample, if_neg hphase, h]

theorem trackSample_gap (hphase : s.controller.phase ≠ .idle)
    (h : sampleVerdict s.tracker.last s.tracker.expected[x.card] x.start x.sets.length = .gap) :
    trackSample x s = sampleGap x (drainCard x.card s) := by
  rw [trackSample, if_neg hphase, h]

end

/-! ## A SETTLE frame (R10, R14) -/

section
variable {b : Tick} {s : State}

theorem trackSettle_waits (hphase : s.controller.phase ≠ .idle) (hpass : s.tracker.passInProgress = true)
    (h : s.tracker.waiting = none) : trackSettle b s = s.onTracker fun t => { t with waiting := some b } := by
  rw [trackSettle, if_neg hphase, if_pos hpass, h]

theorem trackSettle_second (hphase : s.controller.phase ≠ .idle) (hpass : s.tracker.passInProgress = true)
    (h : s.tracker.waiting ≠ none) : trackSettle b s = reportFault .settleDisorder none s := by
  obtain ⟨l, hl⟩ := Option.ne_none_iff_exists'.mp h
  rw [trackSettle, if_neg hphase, if_pos hpass, hl]

theorem trackSettle_disordered (hphase : s.controller.phase ≠ .idle) (hpass : s.tracker.passInProgress = false)
    (h : ∃ l, s.tracker.last = some l ∧ b ≤ l) : trackSettle b s = reportFault .settleDisorder none s := by
  obtain ⟨l, hl, hle⟩ := h
  rw [trackSettle, if_neg hphase, if_neg (by simp [hpass]), if_pos (by simp [settleDisordered, hl, hle])]

theorem trackSettle_accepted (hphase : s.controller.phase ≠ .idle) (hpass : s.tracker.passInProgress = false)
    (h : ∀ l, s.tracker.last = some l → l < b) : trackSettle b s = settleAccepted b s := by
  rw [trackSettle, if_neg hphase, if_neg (by simp [hpass]), if_neg]
  cases hlast : s.tracker.last with
  | none => simp [settleDisordered]
  | some l => simpa [settleDisordered] using h l hlast

end

/-- Settles O18: the offer leaves the tracker and the phase, so the verdict on the frame is that of the state before. -/
theorem disorderedFramesTurnedAway : Obligations.DisorderedFramesTurnedAway := by
  refine ⟨fun f x s hpass hx hphase h => ?_, fun f s hpass hlen hphase => ?_⟩
  · have offered := Reported.offerSample f x.card s
    rw [exec_sample_of_framePasses hpass hx, trackSample_overlap (offered.phase ▸ hphase)]
    rw [offered.tracker]
    exact sampleVerdict_overlap h
  · intro offered
    have hoffered : Reported s offered := .offerPass _ s
    have hphase : offered.controller.phase ≠ .idle := hoffered.phase ▸ hphase
    rw [exec_settle_of_framePasses hpass hlen]
    refine ⟨fun hp hb => ?_, fun hp hw => ?_, fun hp hw => ?_⟩ <;> rw [← hoffered.tracker] at *
    · exact congrArg Host.Outcome.next (trackSettle_disordered hphase hp hb)
    · exact congrArg Host.Outcome.next (trackSettle_second hphase hp hw)
    · exact congrArg Host.Outcome.next (trackSettle_waits hphase hp hw)

/-! ## The units of a card -/

theorem drainCard_eq (k : Card) (s : State) :
    drainCard k s = (List.finRange 8).foldl (fun u l => drainUnit (laneChan k l) u) s := List.foldl_map ..

theorem truncateCard_eq (k : Card) (s : State) :
    truncateCard k s = (List.finRange 8).foldl (fun u l => truncateUnit (laneChan k l) u) s := List.foldl_map ..

theorem sampleOf_eq_some {p : List Byte} {x : SampleFrame} (h : sampleOf p = some x) :
    x.card.val = fieldAt p 0 1 ∧ x.start = fieldAt p 1 6 ∧
      x.sets = (List.range (fieldAt p 7 1)).map fun k => (List.range 8).map fun l => sampleAt p k l := by
  unfold sampleOf at h
  dsimp only at h
  split_ifs at h
  cases h
  exact ⟨rfl, rfl, rfl⟩


/-! ## A sample handed to a unit (R19, log entry 4) -/

theorem State.onUnit_congr {s : State} {c : Chan} {f g : ChannelUnit → ChannelUnit} (h : f s.units[c] = g s.units[c]) :
    s.onUnit c f = s.onUnit c g := by
  have hunits : s.units.set c (f s.units[c]) = s.units.set c (g s.units[c]) := by rw [h]
  exact congrArg (fun us => s.onUnits fun _ => us) hunits

theorem State.onUnit_eq_self {s : State} {c : Chan} {f : ChannelUnit → ChannelUnit} (h : f s.units[c] = s.units[c]) :
    s.onUnit c f = s := by
  have hunits : s.units.set c (f s.units[c]) = s.units := by
    rw [h]
    exact Vector.set_getElem_self _
  exact congrArg (fun us => s.onUnits fun _ => us) hunits

section
variable {c : Chan} {x : LaneSample} {s : State}

/-- The unit with the sample handed behind those it holds. -/
def handed (c : Chan) (x : LaneSample) (s : State) : State := s.onUnit c fun u => { u with lane := u.lane ++ [x] }

theorem handSample_eq (c : Chan) (x : LaneSample) (s : State) : handSample c x s = runUnit c (handed c x s) := rfl

theorem handed_unit (c : Chan) (x : LaneSample) (s : State) :
    (handed c x s).units[c] = { s.units[c] with lane := s.units[c].lane ++ [x] } := State.onUnit_same ..

/-- With nothing left to take, a sample that ends nothing is taken at once. -/
theorem handSample_takes (h : s.units[c].lane = []) (he : sampleEvent s.units[c].ctx x = .ordinary) :
    handSample c x s = takeSample c x s := by
  have hlane : (handed c x s).units[c].lane = [x] := by rw [handed_unit, h]; rfl
  have hctx : (handed c x s).units[c].ctx = s.units[c].ctx := by rw [handed_unit]
  have hback : ((handed c x s).onUnit c fun u => { u with lane := [] }) = s := by
    rw [handed, State.onUnit_onUnit]
    exact State.onUnit_eq_self (by rw [← h])
  rw [handSample_eq, runUnit_takes hlane (hctx ▸ he), hback]
  exact runUnit_nil ((takeSample_lane c x s).trans h)

/-- A unit whose oldest sample waits for a step of its own keeps the new one behind it. -/
theorem handSample_waits {y : LaneSample} {ys : List LaneSample} (h : s.units[c].lane ++ [x] = y :: ys)
    (he : sampleEvent s.units[c].ctx y ≠ .ordinary) :
    handSample c x s = s.onUnit c fun u => { u with lane := y :: ys } := by
  have hlane : (handed c x s).units[c].lane = y :: ys := by rw [handed_unit]; exact h
  have hctx : (handed c x s).units[c].ctx = s.units[c].ctx := by rw [handed_unit]
  rw [handSample_eq, runUnit_waits hlane (hctx ▸ he)]
  exact State.onUnit_congr (by rw [h])

end

theorem trackHit_quietRun (h : Hit) (x : LaneSample) :
    (trackHit h x).quietRun = if h.snap.threshold ≤ x.value.natAbs then 0 else h.quietRun + 1 := by
  by_cases hm : h.snap.threshold ≤ x.value.natAbs <;> simp [trackHit, magnitude, hm]

/-- The samples that a step of its own takes (log entry 4). -/
theorem sampleEvent_ne_ordinary_iff {ctx : Context} {x : LaneSample} : sampleEvent ctx x ≠ .ordinary ↔
    (∃ h, ctx = .openHit h ∧
      (h.snap.quiet ≤ (if h.snap.threshold ≤ x.value.natAbs then 0 else h.quietRun + 1) ∨
        h.raw + h.snap.limit ≤ x.tick + 1)) ∨
    ∃ ready, ctx = .rearm ready ∧ ready ≤ x.tick := by
  cases ctx with
  | dark | ready => simp [sampleEvent]
  | openHit h =>
    have hquiet := trackHit_quietRun h x
    have hsnap : (trackHit h x).snap = h.snap := rfl
    have hraw : (trackHit h x).raw = h.raw := rfl
    by_cases hq : h.snap.quiet ≤ (trackHit h x).quietRun <;> by_cases hl : h.raw + h.snap.limit ≤ x.tick + 1 <;>
      simp [sampleEvent, hsnap, hraw, hq, hl, ← hquiet]
  | rearm t => by_cases ht : x.tick < t <;> simp [sampleEvent, ht, Nat.not_le.mpr, Nat.not_lt.mp]

theorem takeSample_dark {c : Chan} {x : LaneSample} {s : State} (h : s.units[c].ctx = .dark) : takeSample c x s = s := by
  rw [takeSample, h]

theorem takeSample_rearm_below {c : Chan} {x : LaneSample} {s : State} {ready : Tick} (h : s.units[c].ctx = .rearm ready)
    (ht : x.tick < ready) : takeSample c x s = s := by
  rw [takeSample, h]
  exact if_pos ht

theorem sampleGap_eq (x : SampleFrame) (s : State) : sampleGap x s =
    if (reportFault .tickGap (some x.card.val)
        (advanceCard x.card (x.start + x.sets.length) (truncateCard x.card s))).faults.halted then
      reportFault .tickGap (some x.card.val) (advanceCard x.card (x.start + x.sets.length) (truncateCard x.card s))
    else handSets x.card x.start x.sets (reportFault .tickGap (some x.card.val)
      (advanceCard x.card (x.start + x.sets.length) (truncateCard x.card s))) := rfl

/-- Settles O19: the verdict decides, the fields are those of the payload, and a unit's taking of a sample is the laws of
`runUnit` and `drainUnit`. -/
theorem sampleFrameTaken : Obligations.SampleFrameTaken := by
  refine ⟨fun f x s hpass hx hphase hlast hexpected => ?_, fun f x s e hpass hx hphase hlast he hgap => ?_,
    fun p x hx => ?_, fun k l => (by simp [laneChan]; omega), fun _ _ _ => rfl, fun _ _ _ _ _ => rfl,
    fun k s => ⟨drainCard_eq k s, truncateCard_eq k s⟩, fun c s => ⟨drainUnit_nil, fun _ _ => drainUnit_cons⟩,
    fun c x s => ⟨rfl, handSample_takes, fun h => handSample_waits (by rw [h]; rfl),
      fun y ys h => handSample_waits (by rw [h]; rfl)⟩,
    fun c s => ⟨runUnit_nil, fun _ _ => runUnit_waits, fun _ _ => runUnit_takes⟩,
    fun _ _ => sampleEvent_ne_ordinary_iff, fun c x s => ⟨takeSample_dark, fun _ => takeSample_rearm_below⟩⟩
  · have offered := Reported.offerSample f x.card s
    rw [exec_sample_of_framePasses hpass hx, trackSample_taken (offered.phase ▸ hphase)]
    · rfl
    · rw [offered.tracker]
      exact sampleVerdict_taken hlast hexpected
  · intro truncated reported
    have offered := Reported.offerSample f x.card s
    have hreported : reportFault .tickGap (some x.card.val) (advanceCard x.card (x.start + x.sets.length) truncated) =
        reported := rfl
    rw [exec_sample_of_framePasses hpass hx, trackSample_gap (offered.phase ▸ hphase)]
    · rw [sampleGap_eq, hreported]
    · rw [offered.tracker]
      exact sampleVerdict_gap hlast he hgap
  · obtain ⟨hcard, hstart, hsets⟩ := sampleOf_eq_some hx
    refine ⟨hcard, hstart, by simp [hsets], fun j l hj => ?_⟩
    have hj : j < fieldAt p 7 1 := by simpa [hsets] using hj
    simp [hsets, hj, sampleAt, signed16]

/-! ## A SETTLE frame taken (R10 to R13) -/

theorem nextSettled_eq (settled : Option Tick) (b dmax : Nat) : nextSettled settled b dmax = max (settled.getD 0) (b - dmax) := by
  cases settled with
  | none => exact (Nat.zero_max _).symm
  | some t => rfl

/-- The largest delay of a list of entries that listen, starting from `d`. -/
theorem foldl_delay (l : List ChannelEntry) (d : Nat) :
    let m := l.foldl (fun d e => if modeListens e.mode then max d e.delay else d) d
    d ≤ m ∧ (∀ e ∈ l, modeListens e.mode = true → e.delay ≤ m) ∧
      (m = d ∨ ∃ e ∈ l, modeListens e.mode = true ∧ e.delay = m) := by
  induction l generalizing d with
  | nil => simp
  | cons e l ih =>
    rw [List.foldl_cons]
    cases he : modeListens e.mode with
    | false =>
      obtain ⟨hd, hmax, hmem⟩ := ih d
      exact ⟨hd, by simpa [he] using hmax, hmem.imp_right fun ⟨e', h⟩ => ⟨e', by simp [h]⟩⟩
    | true =>
      obtain ⟨hd, hmax, hmem⟩ := ih (max d e.delay)
      simp only [if_true, List.mem_cons, forall_eq_or_imp, exists_eq_or_imp]
      refine ⟨(le_max_left _ _).trans hd, ⟨fun _ => (le_max_right _ _).trans hd, hmax⟩, ?_⟩
      rcases hmem with hm | hm
      · rcases max_choice d e.delay with h | h
        · exact .inl (hm.trans h)
        · exact .inr (.inl ⟨he, (hm.trans h).symm⟩)
      · exact .inr (.inr hm)

theorem dmaxOf_isMax (channels : Vector ChannelEntry 32) :
    (∀ c : Chan, modeListens channels[c].mode = true → channels[c].delay ≤ dmaxOf channels) ∧
    (dmaxOf channels = 0 ∨ ∃ c : Chan, modeListens channels[c].mode = true ∧ channels[c].delay = dmaxOf channels) := by
  obtain ⟨-, hmax, hmem⟩ := foldl_delay channels.toList 0
  refine ⟨fun c => hmax _ (by simp), hmem.imp_right fun ⟨e, he, h⟩ => ?_⟩
  obtain ⟨i, hi, rfl⟩ := Vector.mem_iff_getElem.mp (Vector.mem_toList_iff.mp he)
  exact ⟨⟨i, hi⟩, h⟩

theorem settleAccepted_eq (b : Tick) (s : State) : settleAccepted b s =
    if (lagCheck b (settleTaken ((drainAll s).onTracker fun t => { t with last := some b }))).faults.halted then
      lagCheck b (settleTaken ((drainAll s).onTracker fun t => { t with last := some b }))
    else beginPass b (lagCheck b (settleTaken ((drainAll s).onTracker fun t => { t with last := some b }))) := rfl

/-- Settles O20: the frame is accepted, and the next S is the larger of the two. -/
theorem settleFrameTaken : Obligations.SettleFrameTaken := by
  refine ⟨fun f s hpass hlen hphase hidle hlast => ?_, fun s => rfl, dmaxOf_isMax⟩
  intro b drained checked
  have offered := Reported.offerPass { kind := kindSettle, frame := f } s
  rw [exec_settle_of_framePasses hpass hlen, trackSettle_accepted (offered.phase ▸ hphase) (offered.tracker ▸ hidle)
    (offered.tracker ▸ hlast)]
  have hchecked : lagCheck b (settleTaken (drained.onTracker fun t => { t with last := some b })) = checked := rfl
  rw [settleAccepted_eq, hchecked, ← nextSettled_eq]
  rfl

end Sys2Proof.Machine

/-! # The lag check, and directives to many units -/

namespace Sys2Proof.Machine

/-! ## Directives, one unit after the other -/

/-- Steps that each change the unit of their own channel alone, as long as `P` holds, change every unit of the list once. -/
theorem foldl_units_get {P : State → Prop} {f : State → Chan → State} {g : Chan → ChannelUnit → ChannelUnit}
    (hf : ∀ c s, P s → P (f s c) ∧ (f s c).units = (s.onUnit c (g c)).units) {l : List Chan} (hl : l.Nodup) {s : State}
    (hs : P s) (d : Chan) : (l.foldl f s).units[d] = if d ∈ l then g d s.units[d] else s.units[d] := by
  induction l generalizing s with
  | nil => rfl
  | cons c l ih =>
    obtain ⟨hc, hl⟩ := List.nodup_cons.mp hl
    obtain ⟨hkeeps, hunits⟩ := hf c s hs
    rw [List.foldl_cons, ih hl hkeeps, hunits, State.onUnit_get]
    by_cases hcd : c = d
    · subst hcd
      simp [hc]
    · simp [hcd, Ne.symm hcd]

/-- A directive to all channels. -/
theorem foldl_allChans_get {P : State → Prop} {f : State → Chan → State} {g : Chan → ChannelUnit → ChannelUnit}
    (hf : ∀ c s, P s → P (f s c) ∧ (f s c).units = (s.onUnit c (g c)).units) {s : State} (hs : P s) (d : Chan) :
    (allChans.foldl f s).units[d] = g d s.units[d] :=
  (foldl_units_get (l := allChans) hf (List.nodup_finRange 32) hs d).trans (if_pos (mem_allChans d))

/-! ## Truncation of a card (R32, R33) -/

/-- What a gap or a lag makes of a unit. -/
def truncatedUnit (u : ChannelUnit) : ChannelUnit :=
  match u.ctx with
  | .openHit _ => { u with ctx := .ready }
  | .dark | .ready | .rearm _ => u

theorem truncateUnit_units (c : Chan) (s : State) : (truncateUnit c s).units = (s.onUnit c truncatedUnit).units := by
  unfold truncateUnit
  split
  · next h hctx =>
    have hunit : truncatedUnit s.units[c] = { s.units[c] with ctx := .ready } := by rw [truncatedUnit, hctx]
    rw [State.onUnit_congr (g := fun u => { u with ctx := .ready }) hunit]
    simp [setCtx, State.onUnit]
  all_goals
    next hctx => rw [State.onUnit_eq_self (by rw [truncatedUnit, hctx])]

theorem laneChan_inj {k j : Card} {l m : Fin 8} (h : laneChan k l = laneChan j m) : k = j ∧ l = m := by
  have hval : k.val * 8 + l.val = j.val * 8 + m.val := congrArg Fin.val h
  exact ⟨Fin.ext (by omega), Fin.ext (by omega)⟩

theorem nodup_cardChans (k : Card) : (cardChans k).Nodup :=
  (List.nodup_finRange 8).map fun _ _ h => (laneChan_inj h).2

theorem laneChan_mem_cardChans_iff {k j : Card} {l : Fin 8} : laneChan k l ∈ cardChans j ↔ k = j := by
  constructor
  · intro h
    obtain ⟨m, -, hm⟩ := List.mem_map.mp h
    exact (laneChan_inj hm).1.symm
  · rintro rfl
    exact List.mem_map.mpr ⟨l, List.mem_finRange l, rfl⟩

theorem truncateCard_unit (k j : Card) (l : Fin 8) (s : State) : (truncateCard j s).units[laneChan k l] =
    if k = j then truncatedUnit s.units[laneChan k l] else s.units[laneChan k l] := by
  have h := foldl_units_get (P := fun _ => True) (f := fun s c => truncateUnit c s) (g := fun _ => truncatedUnit)
    (fun c s _ => ⟨trivial, truncateUnit_units c s⟩) (nodup_cardChans j) (s := s) trivial (laneChan k l)
  rw [truncateCard, h]
  simp only [laneChan_mem_cardChans_iff]

/-! ## The lag check (R11) -/

/-- Card `k` as it is after its turn, or as it was before: expected tick, lag flag and units. -/
structure CardIs (k : Card) (expected : Option Tick) (lag : Bool) (f : ChannelUnit → ChannelUnit) (s t : State) : Prop where
  expected : t.tracker.expected[k] = expected
  lag : t.tracker.lag[k] = lag
  units : ∀ l : Fin 8, t.units[laneChan k l] = f s.units[laneChan k l]

/-- Card `k` is as it was. -/
def CardLeft (k : Card) (s t : State) : Prop := CardIs k s.tracker.expected[k] s.tracker.lag[k] id s t

/-- Card `k` has had its turn in the lag check: marked when it lags behind `b`. -/
def CardChecked (b : Tick) (k : Card) (s t : State) : Prop :=
  (isLagging k b s.tracker = true → CardIs k (some b) true truncatedUnit s t) ∧
  (¬isLagging k b s.tracker = true → CardLeft k s t)

theorem CardLeft.refl (k : Card) (s : State) : CardLeft k s s := ⟨rfl, rfl, fun _ => rfl⟩

theorem CardIs.of_left {k : Card} {e : Option Tick} {lag : Bool} {f : ChannelUnit → ChannelUnit} {s t u : State}
    (h : CardIs k e lag f s t) (g : CardLeft k t u) : CardIs k e lag f s u :=
  ⟨g.expected.trans h.expected, g.lag.trans h.lag, fun l => (g.units l).trans (h.units l)⟩

theorem CardLeft.trans {k : Card} {e : Option Tick} {lag : Bool} {f : ChannelUnit → ChannelUnit} {s t u : State}
    (h : CardLeft k s t) (g : CardIs k e lag f t u) : CardIs k e lag f s u :=
  ⟨g.expected, g.lag, fun l => (g.units l).trans (congrArg f (h.units l))⟩

section
variable {b : Tick} {k : Card} {s t : State}

theorem CardChecked.of_left {u : State} (h : CardChecked b k s t) (g : CardLeft k t u) : CardChecked b k s u :=
  ⟨fun hlag => (h.1 hlag).of_left g, fun hlag => CardIs.of_left (h.2 hlag) g⟩

theorem CardLeft.isLagging (h : CardLeft k s t) : isLagging k b t.tracker = isLagging k b s.tracker := by
  rw [Machine.isLagging, h.expected, Machine.isLagging]

theorem CardLeft.checked {u : State} (h : CardLeft k s t) (g : CardChecked b k t u) : CardChecked b k s u :=
  ⟨fun hlag => h.trans (g.1 (h.isLagging.trans hlag)), fun hlag => CardIs.of_left h (g.2 (h.isLagging ▸ hlag))⟩

/-- The state on which a lagging card is reported. -/
def laggedCard (b : Tick) (k : Card) (s : State) : State :=
  (truncateCard k s).onTracker fun t => { t with expected := t.expected.set k (some b), lag := t.lag.set k true }

theorem laggedCard_units (b : Tick) (k : Card) (s : State) : (laggedCard b k s).units = (truncateCard k s).units :=
  State.onTracker_units _ _

theorem laggedCard_at (b : Tick) (k : Card) (s : State) : CardIs k (some b) true truncatedUnit s (laggedCard b k s) := by
  refine ⟨?_, ?_, fun l => ?_⟩
  · simp [laggedCard]
  · simp [laggedCard]
  · rw [laggedCard_units, truncateCard_unit, if_pos rfl]

theorem laggedCard_left {j : Card} (h : j ≠ k) (s : State) : CardLeft j s (laggedCard b k s) := by
  have hval : k.val ≠ j.val := fun e => h (Fin.ext e.symm)
  have hreach := UnitReach.moves.truncateCard k s
  refine ⟨?_, ?_, fun l => ?_⟩
  · simp [laggedCard, hval, hreach.tracker]
  · simp [laggedCard, hval, hreach.tracker]
  · rw [laggedCard_units, truncateCard_unit, if_neg h, id]

theorem CardLeft.of_reported (h : Reported s t) : CardLeft k s t := by
  refine ⟨?_, ?_, fun l => ?_⟩
  · rw [h.tracker]
  · rw [h.tracker]
  · rw [h.units]; rfl

theorem lagCard_eq (b : Tick) (k : Card) (s : State) : lagCard b s k =
    if s.faults.halted then s
    else if isLagging k b s.tracker then reportFault .laneLag (some k.val) (laggedCard b k s) else s := rfl

/-- A card's turn that does not halt the part changes that card at most. -/
theorem lagCard_running (h : (lagCard b s k).faults.halted = false) :
    CardChecked b k s (lagCard b s k) ∧ ∀ j, j ≠ k → CardLeft j s (lagCard b s k) := by
  rw [lagCard_eq] at h ⊢
  by_cases hrun : s.faults.halted = true
  · rw [if_pos hrun] at h
    exact absurd (h.symm.trans hrun) Bool.false_ne_true
  · rw [if_neg hrun] at h ⊢
    by_cases hlag : isLagging k b s.tracker = true
    · rw [if_pos hlag] at h ⊢
      have hreported : Reported (laggedCard b k s) _ := reportFault_reported h
      exact ⟨⟨fun _ => (laggedCard_at b k s).of_left (.of_reported hreported), fun hno => absurd hlag hno⟩,
        fun j hj => (laggedCard_left hj s).of_left (.of_reported hreported)⟩
    · rw [if_neg hlag]
      exact ⟨⟨fun hyes => absurd hyes hlag, fun _ => .refl k s⟩, fun j _ => .refl j s⟩

theorem lagCard_keeps_halted (b : Tick) (s : State) (k : Card) (h : s.faults.halted = true) : lagCard b s k = s := if_pos h

theorem foldl_lagCard_halted (l : List Card) (h : s.faults.halted = true) : l.foldl (lagCard b) s = s :=
  foldl_fixed _ s l fun k _ => lagCard_keeps_halted b s k h

/-- The cards of a list have their turns, each marked when it lags; the others stay. -/
theorem foldl_lagCard_running {l : List Card} (hl : l.Nodup) (h : (l.foldl (lagCard b) s).faults.halted = false) (k : Card) :
    if k ∈ l then CardChecked b k s (l.foldl (lagCard b) s) else CardLeft k s (l.foldl (lagCard b) s) := by
  induction l generalizing s with
  | nil => exact .refl k s
  | cons j l ih =>
    obtain ⟨hj, hl⟩ := List.nodup_cons.mp hl
    rw [List.foldl_cons] at h ⊢
    have hrun : (lagCard b s j).faults.halted = false := by
      by_contra hhalted
      rw [foldl_lagCard_halted l (Bool.not_eq_false _ ▸ hhalted)] at h
      exact hhalted h
    obtain ⟨hturn, hothers⟩ := lagCard_running hrun
    have hrest := ih hl h
    by_cases hk : k = j
    · subst hk
      rw [if_neg hj] at hrest
      rw [if_pos (List.mem_cons_self ..)]
      exact hturn.of_left hrest
    · have hleft := hothers k hk
      by_cases hmem : k ∈ l
      · rw [if_pos hmem] at hrest
        rw [if_pos (List.mem_cons_of_mem _ hmem)]
        exact hleft.checked hrest
      · rw [if_neg hmem] at hrest
        rw [if_neg (by simp [hk, hmem])]
        exact CardIs.of_left hleft hrest

theorem lagCheck_running (h : (lagCheck b s).faults.halted = false) (k : Card) : CardChecked b k s (lagCheck b s) :=
  (if_pos (mem_allCards k)).mp (foldl_lagCard_running (l := allCards) (List.nodup_finRange 4) h k)

theorem isLagging_iff : isLagging k b s.tracker = true ↔ ∃ e, s.tracker.expected[k] = some e ∧ e < b := by
  unfold isLagging
  cases s.tracker.expected[k] <;> simp

theorem isLagging_eq_false (h : ∀ e, s.tracker.expected[k] = some e → b ≤ e) : ¬isLagging k b s.tracker = true := by
  rw [isLagging_iff]
  rintro ⟨e, he, hlt⟩
  exact Nat.not_lt.mpr (h e he) hlt

theorem CardChecked.lagging (h : CardChecked b k s t) (hlag : ∃ e, s.tracker.expected[k] = some e ∧ e < b) :
    CardIs k (some b) true truncatedUnit s t := h.1 (isLagging_iff.mpr hlag)

theorem CardChecked.abreast (h : CardChecked b k s t) (hlag : ∀ e, s.tracker.expected[k] = some e → b ≤ e) :
    CardLeft k s t := h.2 (isLagging_eq_false hlag)

theorem truncatedUnit_of_not_open {u : ChannelUnit} (h : ∀ hit, u.ctx ≠ .openHit hit) : truncatedUnit u = u := by
  unfold truncatedUnit
  split
  · next hit hctx => exact absurd hctx (h hit)
  all_goals rfl

end

/-- Settles O21: each card has its turn once, and a turn changes its own card alone. -/
theorem lagCheckMarksLaggingCards : Obligations.LagCheckMarksLaggingCards := by
  refine ⟨fun b s hrun k => ?_, fun b s h => foldl_fixed _ s _ fun k _ => ?_, fun b s => ?_, fun b s hrun k l => ?_⟩
  · have hchecked := lagCheck_running hrun k
    exact ⟨fun hlag => ⟨(hchecked.lagging hlag).expected, (hchecked.lagging hlag).lag⟩,
      fun hlag => ⟨(hchecked.abreast hlag).expected, (hchecked.abreast hlag).lag⟩⟩
  · rw [lagCard_eq, if_neg (isLagging_eq_false (h k)), ite_self]
  · refine congrArg (fun f => List.foldl f s [(0 : Card), 1, 2, 3]) (funext fun t => funext fun k => ?_)
    rw [lagCard_eq, isLagging, laggedCard, truncateCard_eq]
    cases t.tracker.expected[k] with
    | none => exact ite_self t
    | some e => cases t.faults.halted <;> simp [State.onTracker]
  · intro c
    have hchecked := lagCheck_running hrun k
    refine ⟨fun hlag ⟨h, hopen⟩ => ?_, fun hstays => ?_⟩
    · rw [(hchecked.lagging hlag).units l, truncatedUnit, hopen]
    · by_cases hlag : ∃ e, s.tracker.expected[k] = some e ∧ e < b
      · have hclosed := hstays.resolve_left fun habreast =>
          isLagging_eq_false habreast (isLagging_iff.mpr hlag)
        exact ((hchecked.lagging hlag).units l).trans (truncatedUnit_of_not_open hclosed)
      · exact (hchecked.abreast fun e he => Nat.not_lt.mp fun hlt => hlag ⟨e, he, hlt⟩).units l

end Sys2Proof.Machine

/-! # What an offer does not look at -/

namespace Sys2Proof.Machine

/-- `f` neither reads nor writes the count of reservations. -/
def SparesReservations (f : Outlet → Outlet) : Prop :=
  ∀ (o : Outlet) (n : Nat), f { o with reservations := n } = { f o with reservations := n }

theorem SparesReservations.reservations_eq {f : Outlet → Outlet} (h : SparesReservations f) (o : Outlet) :
    (f o).reservations = o.reservations :=
  (congrArg Outlet.reservations (h o o.reservations) :)

/-- `g` changes what no offer reads and no offer changes: the units, the responder, the count of reservations and the
like. -/
structure Apart (g : State → State) : Prop where
  tracker : ∀ s, (g s).tracker = s.tracker
  controller : ∀ s, (g s).controller = s.controller
  active : ∀ s, (g s).active = s.active
  faults : ∀ s, (g s).faults = s.faults
  ready : ∀ s, (g s).ready = s.ready
  outlet : ∀ s, ∃ n, (g s).outlet = { s.outlet with reservations := n }
  onOutlet : ∀ f s, SparesReservations f → g (s.onOutlet f) = (g s).onOutlet f
  onController : ∀ f s, g (s.onController f) = (g s).onController f
  onFaults : ∀ f s, g (s.onFaults f) = (g s).onFaults f

theorem chooseNext_spares : SparesReservations chooseNext := by
  rintro ⟨_ | r, _ | ⟨a, as⟩, n', _ | ⟨r', rs⟩, _ | ⟨p, ps⟩, _, _, _⟩ n <;> rfl

namespace Apart
variable {g : State → State} (h : Apart g)
include h

theorem sending (s : State) : (g s).outlet.sending = s.outlet.sending := by
  obtain ⟨n, e⟩ := h.outlet s
  rw [e]

theorem dense (s : State) : (g s).outlet.dense = s.outlet.dense := by
  obtain ⟨n, e⟩ := h.outlet s
  rw [e]

theorem records (s : State) : (g s).outlet.records = s.outlet.records := by
  obtain ⟨n, e⟩ := h.outlet s
  rw [e]

theorem arbitrate (s : State) : Machine.arbitrate (g s) = g (Machine.arbitrate s) := by
  unfold Machine.arbitrate
  rw [h.ready, h.sending]
  split
  · exact (h.onOutlet _ s chooseNext_spares).symm
  · rfl

theorem disposition (r : Record) (s : State) : Machine.disposition r (g s) = Machine.disposition r s := by
  unfold Machine.disposition
  rw [h.faults, h.dense, h.records]

theorem onCounters (f : Counters → Counters) (s : State) : Machine.onCounters f (g s) = g (Machine.onCounters f s) :=
  (h.onController _ s).symm

theorem setMarks (p : MarkSpec → Bool) (s : State) : Machine.setMarks p (g s) = g (Machine.setMarks p s) := by
  unfold Machine.setMarks
  rw [h.onController, h.active]

theorem pushRecord (r : Record) (s : State) : Machine.pushRecord r (g s) = g (Machine.pushRecord r s) :=
  (h.onOutlet _ s fun _ _ => rfl).symm

theorem conditionRecord (c : Condition) (s : State) : Machine.conditionRecord c (g s) = Machine.conditionRecord c s := by
  unfold Machine.conditionRecord
  rw [h.controller, h.tracker, h.faults]

theorem raiseWith {offer : Record → State → State} (ho : ∀ r s, offer r (g s) = g (offer r s)) (c : Condition) (s : State) :
    Machine.raiseWith offer c (g s) = g (Machine.raiseWith offer c s) := by
  unfold Machine.raiseWith
  dsimp only
  rw [← h.onFaults, h.faults, h.active, h.conditionRecord, h.disposition, ho, ← h.onFaults]
  split_ifs <;> rfl

theorem enterDense {offer : Record → State → State} (ho : ∀ r s, offer r (g s) = g (offer r s)) (s : State) :
    Machine.enterDense offer (g s) = g (Machine.enterDense offer s) := by
  unfold Machine.enterDense
  dsimp only
  rw [h.active, ← h.onOutlet, h.setMarks, h.raiseWith ho]
  intro o n
  cases s.active.test.cutTiming <;> rfl

theorem offerDepth (d : Nat) (r : Record) (s : State) : Machine.offerDepth d r (g s) = g (Machine.offerDepth d r s) := by
  induction d generalizing r s with
  | zero => rfl
  | succ d ih =>
    have henters : entersDense (g (Machine.pushRecord r s)) = entersDense (Machine.pushRecord r s) := by
      rw [entersDense, h.dense, h.records, h.active, entersDense]
    cases hd : Machine.disposition r s with
    | discarded => simp only [Machine.offerDepth, h.disposition, hd]
    | suppressed => simp only [Machine.offerDepth, h.disposition, hd, h.onCounters]
    | dropped => simp only [Machine.offerDepth, h.disposition, hd, h.onCounters, h.raiseWith ih]
    | admitted =>
      simp only [Machine.offerDepth, h.disposition, hd, h.pushRecord, henters, h.enterDense ih]
      split <;> rfl

theorem offerRecord (r : Record) (s : State) : Machine.offerRecord r (g s) = g (Machine.offerRecord r s) := by
  rw [Machine.offerRecord, h.offerDepth, h.arbitrate, Machine.offerRecord]

theorem raise (c : Condition) (s : State) : Machine.raise c (g s) = g (Machine.raise c s) := by
  rw [Machine.raise, h.raiseWith (h.offerDepth 3), h.arbitrate, Machine.raise]

end Apart

theorem Apart.onUnits (f : Vector ChannelUnit 32 → Vector ChannelUnit 32) : Apart fun s => s.onUnits f :=
  ⟨fun _ => rfl, fun _ => rfl, fun _ => rfl, fun _ => rfl, fun _ => rfl, fun _ => ⟨_, rfl⟩, fun _ _ _ => rfl,
    fun _ _ => rfl, fun _ _ => rfl⟩

theorem Apart.onUnit (c : Chan) (f : ChannelUnit → ChannelUnit) : Apart fun s => s.onUnit c f := .onUnits _

theorem Apart.inHand (k : MgmtKind) (f : Frame) : Apart (inHand k f) := by
  refine ⟨fun _ => rfl, fun _ => rfl, fun _ => rfl, fun _ => rfl, fun _ => rfl, fun _ => ⟨_, rfl⟩, fun u s hu => ?_,
    fun _ _ => rfl, fun _ _ => rfl⟩
  simp only [Machine.inHand, State.onOutlet, hu.reservations_eq]
  rw [hu s.outlet (s.outlet.reservations + 1)]

/-- A change of a unit that leaves its serial does not meet an end sequence. -/
theorem endSequence_onUnit {c d : Chan} {h : Hit} {k : HitEnd} {ph : Phase} {s : State} {f : ChannelUnit → ChannelUnit}
    (hserial : (f s.units[d]).serial = s.units[d].serial) :
    endSequence c h k ph false (s.onUnit d f) = (endSequence c h k ph false s).onUnit d f := by
  have hunit : (s.onUnit d f).units[c].serial = s.units[c].serial := by
    rw [State.onUnit_get]
    split
    · next hdc => rw [← hdc, hserial]
    · rfl
  unfold endSequence
  dsimp only
  rw [hunit, ← (Apart.onUnit d f).offerRecord]
  rfl

end Sys2Proof.Machine

/-! # Hits, from their start to their record -/

namespace Sys2Proof.Machine

/-! ## The start of a hit (R22) -/

theorem clipped_eq_decide (x : Int) : clipped x = decide (x = 32767 ∨ x = -32768) := by
  rw [clipped, Bool.decide_or]
  rfl

section
variable {c : Chan} {x : LaneSample} {s : State}

theorem modeListens_iff {m : Mode} : modeListens m = true ↔ m ≠ .off := by cases m <;> simp [modeListens]

theorem takeReady_stays (h : s.active.channels[c].mode = .off ∨ x.value.natAbs < s.active.channels[c].threshold) :
    takeReady c x s = s := by
  refine if_neg fun hc => ?_
  obtain ⟨hlistens, hmet⟩ := Bool.and_eq_true_iff.mp hc
  rcases h with hoff | hbelow
  · exact modeListens_iff.mp hlistens hoff
  · exact Nat.not_le.mpr hbelow (of_decide_eq_true hmet)

theorem takeReady_starts (hmode : s.active.channels[c].mode ≠ .off)
    (hmet : s.active.channels[c].threshold ≤ x.value.natAbs) : takeReady c x s = startHit c x s :=
  if_pos (Bool.and_eq_true_iff.mpr ⟨modeListens_iff.mpr hmode, decide_eq_true hmet⟩)

theorem takeSample_ready (h : s.units[c].ctx = .ready) : takeSample c x s = takeReady c x s := by rw [takeSample, h]

theorem takeSample_open {h : Hit} (hctx : s.units[c].ctx = .openHit h) : takeSample c x s = takeOpen c h x s := by
  rw [takeSample, hctx]

theorem takeSample_rearm {ready : Tick} (hctx : s.units[c].ctx = .rearm ready) (ht : ready ≤ x.tick) :
    takeSample c x s = takeReady c x (setCtx c .ready s) := by
  rw [takeSample, hctx]
  exact if_neg (Nat.not_lt.mpr ht)

/-- The arrival that a starting hit hands (R55). -/
def startArrival (c : Chan) (x : LaneSample) (s : State) : Arrival :=
  newArrival c ((s.units[c].serial + 1) % 65536) (x.tick - s.active.channels[c].delay) s.active.channels[c].mode

/-- The hit that the sample starts. -/
def begunHit (c : Chan) (x : LaneSample) (s : State) : Hit :=
  startedHit s.active.channels[c] x (listingOf (x.tick - s.active.channels[c].delay) s)

/-- The part with the hit started, before it may end at once. -/
def hitBegun (c : Chan) (x : LaneSample) (s : State) : State :=
  let listed := (takeArrival (startArrival c x s) s).onUnit c fun u =>
    { u with serial := (s.units[c].serial + 1) % 65536, ctx := .openHit (begunHit c x s) }
  if clipped x.value then clipNotice c ((s.units[c].serial + 1) % 65536) listed else listed

theorem startHit_eq (c : Chan) (x : LaneSample) (s : State) : startHit c x s =
    if s.active.channels[c].limit ≤ 1 then endHit c (begunHit c x s) .long x.tick (hitBegun c x s)
    else hitBegun c x s := rfl

theorem hitBegun_reach (c : Chan) (x : LaneSample) (s : State) : UnitReach s (hitBegun c x s) := by
  have m := UnitReach.moves
  have listed (f : ChannelUnit → ChannelUnit) : UnitReach s ((takeArrival (startArrival c x s) s).onUnit c f) :=
    (m.takeArrival _ s).trans (m.onUnit c f _)
  exact m.ite (fun _ => (listed _).trans (m.clipNotice ..)) fun _ => listed _

end

/-- Settles O22: the mode and the threshold decide, and a start is `hitBegun`, ended at once when L is at most 1. -/
theorem hitStart : Obligations.HitStart := by
  refine ⟨fun c x s hready hstays => (takeSample_ready hready).trans (takeReady_stays hstays),
    fun c x s hready hmode hmet => ?_⟩
  intro e serial x' isClipped h listed noticed
  have htake : takeSample c x s = startHit c x s := (takeSample_ready hready).trans (takeReady_starts hmode hmet)
  have hh : begunHit c x s = h := by
    unfold begunHit startedHit
    rw [clipped_eq_decide]
    rfl
  have hnoticed : hitBegun c x s = noticed := by
    unfold hitBegun
    rw [hh, clipped_eq_decide]
    rfl
  have hphase := (hitBegun_reach c x s).phase
  rw [htake, startHit_eq, hh]
  rw [hnoticed] at hphase ⊢
  refine ⟨fun hlimit => if_neg (Nat.not_le.mpr hlimit), fun hlimit => (if_pos hlimit).trans ?_⟩
  rw [endHit, hphase]
  rfl

/-! ## The bookkeeping of a sample (R25 to R28) -/

section
variable {c : Chan} {x : LaneSample} {h : Hit} {s : State}

/-- The part with the clip notice of the hit's first clipped sample handed (R27). -/
def clipTold (c : Chan) (x : LaneSample) (h : Hit) (s : State) : State :=
  if clipped x.value && !h.clip then clipNotice c s.units[c].serial s else s

theorem takeOpen_eq (c : Chan) (h : Hit) (x : LaneSample) (s : State) : takeOpen c h x s =
    if h.snap.quiet ≤ (trackHit h x).quietRun then
      endHit c (trackHit h x) .normal x.tick (setCtx c (.openHit (trackHit h x)) (clipTold c x h s))
    else if h.raw + h.snap.limit ≤ x.tick + 1 then
      endHit c (trackHit h x) .long x.tick (setCtx c (.openHit (trackHit h x)) (clipTold c x h s))
    else setCtx c (.openHit (trackHit h x)) (clipTold c x h s) := rfl

/-- A sample at or above the threshold. -/
theorem trackHit_supra (hm : h.snap.threshold ≤ x.value.natAbs) : trackHit h x =
    { h with
      crossings := if h.above then h.crossings else if h.crossings < 65535 then h.crossings + 1 else h.crossings
      above := true
      peak := if decide (x.tick < h.raw + h.snap.peakWindow ∧ h.peak < x.value.natAbs) then x.value.natAbs else h.peak
      peakTick := if decide (x.tick < h.raw + h.snap.peakWindow ∧ h.peak < x.value.natAbs) then x.tick else h.peakTick
      clip := h.clip || clipped x.value
      energy := h.energy + h.quietSum + x.value.natAbs, quietRun := 0, quietSum := 0, lastSupra := x.tick } := by
  have hsupra : decide (h.snap.threshold ≤ magnitude x.value) = true := decide_eq_true hm
  unfold trackHit
  simp only [hsupra, Bool.decide_and]
  cases h.above <;> rfl

/-- A sample below the threshold. -/
theorem trackHit_below (hm : x.value.natAbs < h.snap.threshold) : trackHit h x =
    { h with
      above := false
      peak := if decide (x.tick < h.raw + h.snap.peakWindow ∧ h.peak < x.value.natAbs) then x.value.natAbs else h.peak
      peakTick := if decide (x.tick < h.raw + h.snap.peakWindow ∧ h.peak < x.value.natAbs) then x.tick else h.peakTick
      clip := h.clip || clipped x.value
      quietRun := h.quietRun + 1, quietSum := h.quietSum + x.value.natAbs } := by
  have hbelow : decide (h.snap.threshold ≤ magnitude x.value) = false := decide_eq_false (Nat.not_le.mpr hm)
  unfold trackHit
  simp only [hbelow, Bool.decide_and]
  rfl

theorem takeOpen_ordinary (hquiet : (trackHit h x).quietRun < h.snap.quiet) (hlimit : x.tick + 1 < h.raw + h.snap.limit) :
    takeOpen c h x s = setCtx c (.openHit (trackHit h x)) (clipTold c x h s) := by
  rw [takeOpen_eq]
  exact (if_neg (Nat.not_le.mpr hquiet)).trans (if_neg (Nat.not_le.mpr hlimit))

end

/-- Settles O23: the hit after the sample is `trackHit`, which has one form at or above the threshold and one below it. -/
theorem openHitBookkeeping : Obligations.OpenHitBookkeeping := by
  intro c x h s hctx m isClipped higher supra below noticed hlimit
  have hnoticed : clipTold c x h s = noticed := by
    unfold clipTold
    rw [clipped_eq_decide]
  refine ⟨fun hm hquiet => ?_, fun hm hquiet => ?_⟩
  · have htrack : trackHit h x = supra := by rw [trackHit_supra hm, clipped_eq_decide]
    rw [takeSample_open hctx, takeOpen_ordinary (htrack ▸ hquiet) hlimit, htrack, hnoticed]
    rfl
  · have htrack : trackHit h x = below := by rw [trackHit_below hm, clipped_eq_decide]
    rw [takeSample_open hctx, takeOpen_ordinary (htrack ▸ hquiet) hlimit, htrack, hnoticed]
    rfl

/-! ## The end sequence and the directives (R32 to R37) -/

/-- Settles O24: the record is `hitRecord`, whose features the kind of the end chooses. -/
theorem endSequenceOffersHitRecord : Obligations.EndSequenceOffersHitRecord := by
  intro c h k ph s
  cases k <;> rfl

theorem truncateUnit_open {c : Chan} {h : Hit} {s : State} (hctx : s.units[c].ctx = .openHit h) :
    truncateUnit c s = setCtx c .ready (endSequence c h .truncated s.controller.phase false s) := by
  rw [truncateUnit, hctx]

theorem truncateUnit_not_open {c : Chan} {s : State} (hctx : ∀ h, s.units[c].ctx ≠ .openHit h) : truncateUnit c s = s := by
  unfold truncateUnit
  split
  · next h e => exact absurd e (hctx h)
  all_goals rfl

theorem stopUnit_open {c : Chan} {h : Hit} {ph : Phase} {s : State} (hctx : s.units[c].ctx = .openHit h) :
    stopUnit ph false c s = (endSequence c h .truncated ph false s).onUnit c darkUnit := by
  rw [stopUnit, hctx]
  rfl

theorem stopUnit_open_held {c : Chan} {h : Hit} {ph : Phase} {s : State} (hctx : s.units[c].ctx = .openHit h) :
    stopUnit ph true c s =
      (endSequence c h .truncated ph (Config.noticeHeldBack s.freeDraws) (s.withDraws (s.freeDraws + 1))).onUnit c
        darkUnit := by
  rw [stopUnit, hctx]
  rfl

theorem stopUnit_not_open {c : Chan} {ph : Phase} {b : Bool} {s : State} (hctx : ∀ h, s.units[c].ctx ≠ .openHit h) :
    stopUnit ph b c s = s.onUnit c darkUnit := by
  unfold stopUnit
  split
  · next h e => exact absurd e (hctx h)
  all_goals rfl

/-- Settles O27: by the two laws of each directive. -/
theorem truncationDirectives : Obligations.TruncationDirectives :=
  ⟨fun _ _ _ => truncateUnit_open, fun _ _ => truncateUnit_not_open, fun _ _ _ _ => stopUnit_open,
    fun _ _ _ _ => stopUnit_not_open, fun _ => ⟨rfl, rfl⟩⟩

/-! ## The steps of a unit (R29 to R31, log entry 4) -/

section
variable {c : Chan} {x : LaneSample} {xs : List LaneSample} {s : State}

/-- The unit with its oldest sample taken from the lane. -/
def headTaken (c : Chan) (xs : List LaneSample) (s : State) : State := s.onUnit c fun u => { u with lane := xs }

theorem headTaken_unit (c : Chan) (xs : List LaneSample) (s : State) :
    (headTaken c xs s).units[c] = { s.units[c] with lane := xs } := State.onUnit_same ..

theorem headTaken_ctx (c : Chan) (xs : List LaneSample) (s : State) : (headTaken c xs s).units[c].ctx = s.units[c].ctx := by
  rw [headTaken_unit]

theorem headTaken_serial (c : Chan) (xs : List LaneSample) (s : State) :
    (headTaken c xs s).units[c].serial = s.units[c].serial := by
  rw [headTaken_unit]

theorem unitStep_takes {ev : UnitEvent} (hlane : s.units[c].lane = x :: xs) (hev : sampleEvent s.units[c].ctx x = ev) :
    unitStep ev c s = runUnit c (takeSample c x (headTaken c xs s)) := by
  have hdue : dueEvent c s = ev := by rw [dueEvent, hlane]; exact hev
  have htakes : (!s.units[c].lane.isEmpty && dueEvent c s == ev) = true := by
    rw [hdue, hlane]
    cases ev <;> rfl
  have hhead : takeHead c s = takeSample c x (headTaken c xs s) := by rw [takeHead, hlane]; rfl
  rw [unitStep, if_pos htakes, hhead]

theorem clipTold_phase (c : Chan) (x : LaneSample) (h : Hit) (s : State) :
    (clipTold c x h s).controller.phase = s.controller.phase := by
  unfold clipTold
  split <;> rfl

/-- The context entered after an end stands over the one before it. -/
theorem endHit_setCtx (c : Chan) (h : Hit) (k : HitEnd) (t : Tick) (ctx : Context) (s : State) :
    endHit c h k t (setCtx c ctx s) =
      (endSequence c h k s.controller.phase false s).onUnit c fun u => { u with ctx := .rearm (t + h.snap.rearm + 1) } := by
  rw [endHit, setCtx, setCtx, endSequence_onUnit rfl, State.onUnit_onUnit]
  rfl

/-- The rest that follows a hit's end at tick `t` (R31). -/
def rearmed (h : Hit) (t : Tick) (u : ChannelUnit) : ChannelUnit := { u with ctx := .rearm (t + h.snap.rearm + 1) }

theorem takeOpen_normal {h : Hit} (hquiet : h.snap.quiet ≤ (trackHit h x).quietRun) : takeOpen c h x s =
    (endSequence c (trackHit h x) .normal s.controller.phase false (clipTold c x h s)).onUnit c (rearmed h x.tick) := by
  rw [takeOpen_eq, if_pos hquiet, endHit_setCtx, clipTold_phase]
  rfl

theorem takeOpen_long {h : Hit} (hquiet : (trackHit h x).quietRun < h.snap.quiet)
    (hlimit : h.raw + h.snap.limit ≤ x.tick + 1) : takeOpen c h x s =
    (endSequence c (trackHit h x) .long s.controller.phase false (clipTold c x h s)).onUnit c (rearmed h x.tick) := by
  rw [takeOpen_eq, if_neg (Nat.not_le.mpr hquiet), if_pos hlimit, endHit_setCtx, clipTold_phase]
  rfl

/-- A sample below the threshold of a hit is not clipped, as a threshold is at most 32767. -/
theorem clipTold_below {h : Hit} (hm : x.value.natAbs < h.snap.threshold) (hrange : h.snap.threshold ≤ 32767) :
    clipTold c x h s = s := by
  refine if_neg ?_
  rw [clipped_eq_decide, decide_eq_false (by omega)]
  exact Bool.false_ne_true

theorem clipTold_tracked (c : Chan) (x : LaneSample) (h : Hit) (s : State) : clipTold c x h s =
    if (trackHit h x).clip && !h.clip then clipNotice c s.units[c].serial s else s := by
  have hclip : (clipped x.value && !h.clip) = ((trackHit h x).clip && !h.clip) := by
    show _ = ((h.clip || clipped x.value) && !h.clip)
    cases h.clip <;> simp
  rw [clipTold, hclip]

theorem exec_normalEnd {h : Hit} (hlane : s.units[c].lane = x :: xs) (hctx : s.units[c].ctx = .openHit h)
    (hquiet : h.snap.quiet ≤ (trackHit h x).quietRun) : exec (.normalEnd c) s = .next (runUnit c
      ((endSequence c (trackHit h x) .normal s.controller.phase false (clipTold c x h (headTaken c xs s))).onUnit c
        (rearmed h x.tick))) := by
  have hev : sampleEvent s.units[c].ctx x = .normalEnd := by rw [hctx]; exact if_pos hquiet
  have hopen : (headTaken c xs s).units[c].ctx = .openHit h := (headTaken_ctx c xs s).trans hctx
  refine congrArg Host.Outcome.next ((unitStep_takes hlane hev).trans ?_)
  rw [takeSample_open hopen, takeOpen_normal hquiet]
  rfl

theorem exec_longEnd {h : Hit} (hlane : s.units[c].lane = x :: xs) (hctx : s.units[c].ctx = .openHit h)
    (hquiet : (trackHit h x).quietRun < h.snap.quiet) (hlimit : h.raw + h.snap.limit ≤ x.tick + 1) :
    exec (.longEnd c) s = .next (runUnit c
      ((endSequence c (trackHit h x) .long s.controller.phase false (clipTold c x h (headTaken c xs s))).onUnit c
        (rearmed h x.tick))) := by
  have hev : sampleEvent s.units[c].ctx x = .longEnd := by
    rw [hctx]
    exact (if_neg (Nat.not_le.mpr hquiet)).trans (if_pos hlimit)
  have hopen : (headTaken c xs s).units[c].ctx = .openHit h := (headTaken_ctx c xs s).trans hctx
  refine congrArg Host.Outcome.next ((unitStep_takes hlane hev).trans ?_)
  rw [takeSample_open hopen, takeOpen_long hquiet hlimit]
  rfl

theorem exec_rearmEnd {ready : Tick} (hlane : s.units[c].lane = x :: xs) (hctx : s.units[c].ctx = .rearm ready)
    (ht : ready ≤ x.tick) : exec (.rearmEnd c) s =
      .next (runUnit c (takeReady c x (s.onUnit c fun u => { u with lane := xs, ctx := .ready }))) := by
  have hev : sampleEvent s.units[c].ctx x = .rearmEnd := by rw [hctx]; exact if_neg (Nat.not_lt.mpr ht)
  have hrearm : (headTaken c xs s).units[c].ctx = .rearm ready := (headTaken_ctx c xs s).trans hctx
  have hready : setCtx c .ready (headTaken c xs s) = s.onUnit c fun u => { u with lane := xs, ctx := .ready } :=
    State.onUnit_onUnit ..
  refine congrArg Host.Outcome.next ((unitStep_takes hlane hev).trans ?_)
  rw [takeSample_rearm hrearm ht, hready]

end

/-- Settles O26: the event of the oldest sample is that of the step, and the end or the rearming is that of taking it. -/
theorem unitEventSteps : Obligations.UnitEventSteps := by
  refine ⟨fun c x xs h s hlane hctx => ?_, fun c x xs ready s hlane hctx ht => ?_⟩
  · intro taken h' rearm
    refine ⟨fun hm hthreshold hquiet => ?_, fun hquiet hsupra hlimit => ?_⟩
    · have hended : h.snap.quiet ≤ (trackHit h x).quietRun := by
        rw [trackHit_quietRun, if_neg (Nat.not_le.mpr hm)]
        exact hquiet
      rw [exec_normalEnd hlane hctx hended, clipTold_below hm hthreshold]
      rfl
    · have hruns : (trackHit h x).quietRun < h.snap.quiet := by
        rw [trackHit_quietRun]
        split
        · exact hsupra ‹_›
        · exact hquiet (Nat.not_le.mp ‹_›)
      rw [exec_longEnd hlane hctx hruns hlimit, clipTold_tracked, headTaken_serial]
      rfl
  · intro again
    refine ⟨fun hstays => (exec_rearmEnd hlane hctx ht).trans ?_, fun hmode hmet => (exec_rearmEnd hlane hctx ht).trans ?_⟩
    · rw [takeReady_stays (s := again) hstays]
    · rw [takeReady_starts (s := again) hmode hmet]

end Sys2Proof.Machine

/-! # Arrivals, events and their close -/

namespace Sys2Proof.Machine

/-! ## Notices (R57, R58) -/

section
variable {c : Chan} {n : Nat} {a : Assembler} (f : Arrival → Arrival)

theorem isPair_iff {x : Arrival} : isPair c n x = true ↔ x.chan = c ∧ x.serial = n := by simp [isPair]

/-- What a notice does to one entry or member. -/
theorem atPair_eq {mark : Arrival → Arrival}
    (hmark : ∀ x, mark x = if x.chan = c ∧ x.serial = n then f x else x) : atPair c n f = mark := by
  funext x
  rw [hmark, atPair]
  exact if_congr isPair_iff rfl rfl

theorem applyNotice_listed (h : ∃ x ∈ a.arrivals, x.chan = c ∧ x.serial = n) :
    applyNotice c n f a = { a with arrivals := a.arrivals.map (atPair c n f) } := by
  obtain ⟨x, hx, hpair⟩ := h
  exact if_pos (List.any_eq_true.mpr ⟨x, hx, isPair_iff.mpr hpair⟩)

/-- The slots with the notice taken to the members. -/
def noticedSlots (c : Chan) (n : Nat) (f : Arrival → Arrival) (slots : Vector (Option Event) 8) :
    Vector (Option Event) 8 :=
  mapVec (fun slot => slot.map fun e => { e with members := e.members.map (atPair c n f) }) slots

theorem applyNotice_unlisted (h : ∀ x ∈ a.arrivals, ¬(x.chan = c ∧ x.serial = n)) :
    applyNotice c n f a = { a with slots := noticedSlots c n f a.slots } := by
  refine if_neg fun hany => ?_
  obtain ⟨x, hx, hpair⟩ := List.any_eq_true.mp hany
  exact h x hx (isPair_iff.mp hpair)

theorem noticedSlots_get (slots : Vector (Option Event) 8) (i : Fin 8) : (noticedSlots c n f slots)[i] =
    slots[i].map fun e => { e with members := e.members.map (atPair c n f) } := mapVec_getElem ..

end

theorem takeArrival_late {x : Arrival} {s : State} (h : ∃ b, s.tracker.settled = some b ∧ x.tick < b) :
    listingOf x.tick s = .late ∧ takeArrival x s = countUnassociated s := by
  obtain ⟨b, hb, ht⟩ := h
  have hlate := listingOf_of_lt hb ht
  exact ⟨hlate, by rw [takeArrival, hlate]⟩

theorem takeArrival_unlisted {x : Arrival} {s : State} (h : ∀ b, s.tracker.settled = some b → b ≤ x.tick)
    (hfull : 64 ≤ s.assembler.arrivals.length) :
    listingOf x.tick s = .unlisted ∧ takeArrival x s = raise .arrivalOverflow (countUnassociated s) := by
  have hunlisted := (listingOf_of_settled_le h).trans (if_pos hfull)
  exact ⟨hunlisted, by rw [takeArrival, hunlisted]⟩

theorem takeArrival_listed {x : Arrival} {s : State} (h : ∀ b, s.tracker.settled = some b → b ≤ x.tick)
    (hroom : s.assembler.arrivals.length < 64) : listingOf x.tick s = .listed ∧
      takeArrival x s = s.onAssembler fun a => { a with arrivals := insertArrival x a.arrivals } := by
  have hlisted := (listingOf_of_settled_le h).trans (if_neg (Nat.not_le.mpr hroom))
  exact ⟨hlisted, by rw [takeArrival, hlisted]⟩

/-- Where an arrival joins the list, in order when the list is. -/
theorem insertArrival_place (x : Arrival) (s : State) : ∃ front back, s.assembler.arrivals = front ++ back ∧
    insertArrival x s.assembler.arrivals = front ++ x :: back ∧
    (ArrivalsSound s → (∀ y ∈ front, arrivalLe y x) ∧ ∀ y ∈ back, arrivalLe x y) := by
  by_cases hsound : ArrivalsSound s
  · obtain ⟨front, back, happ, hinsert, hfront, hback⟩ := insertArrival_between (x := x) hsound
    exact ⟨front, back, happ, hinsert, fun _ => ⟨hfront, hback⟩⟩
  · obtain ⟨front, back, happ, hinsert, -, -⟩ := insertArrival_eq x s.assembler.arrivals
    exact ⟨front, back, happ, hinsert, fun h => absurd h hsound⟩

/-- Settles O28: by the three listing outcomes, and by whether the notice's pair is in the list. -/
theorem arrivalsAndNotices : Obligations.ArrivalsAndNotices := by
  refine ⟨fun x s => ?_, fun n s => ?_, fun c serial s => ?_, fun n s hno => ?_⟩
  · intro counted
    refine ⟨takeArrival_late, takeArrival_unlisted, fun h hroom => ?_⟩
    obtain ⟨hlisted, htake⟩ := takeArrival_listed h hroom
    obtain ⟨front, back, happ, hinsert, horder⟩ := insertArrival_place x s
    refine ⟨hlisted, front, back, happ, htake.trans ?_, horder⟩
    rw [State.onAssembler, hinsert]
  · intro mark
    have hmark : atPair n.chan n.serial (markEnded n) = mark := atPair_eq _ fun _ => rfl
    refine ⟨fun hlisted => ?_, fun hno => ?_⟩
    · rw [endNotice, State.onAssembler, applyNotice_listed _ hlisted, hmark]
    · rw [endNotice, State.onAssembler, applyNotice_unlisted _ hno]
      refine ⟨rfl, fun i => ?_⟩
      rw [← hmark]
      exact noticedSlots_get ..
  · intro mark
    have hmark : atPair c serial (fun x => { x with clip := true }) = mark := atPair_eq _ fun _ => rfl
    refine ⟨fun hlisted => ?_, fun hno => ⟨noticedSlots c serial (fun x => { x with clip := true }) s.assembler.slots, ?_, fun i => ?_⟩⟩
    · rw [clipNotice, State.onAssembler, applyNotice_listed _ hlisted, hmark]
    · rw [clipNotice, State.onAssembler, applyNotice_unlisted _ hno]
    · rw [← hmark]
      exact noticedSlots_get ..
  · rw [endNotice, State.onAssembler, applyNotice_unlisted _ hno]

/-! ## The placement of an arrival (R59 to R62) -/

theorem freeSlot_eq_some_iff {slots : Vector (Option Event) 8} {i : Fin 8} :
    freeSlot slots = some i ↔ slots[i] = none ∧ ∀ j : Fin 8, j < i → slots[j] ≠ none := by
  simp only [freeSlot, allSlots, ← Fin.find?_eq_find?_finRange, Fin.find?_eq_some_iff, Option.isNone_iff_eq_none,
    Option.isNone_eq_false_iff, Option.isSome_iff_ne_none, ne_eq]

theorem freeSlot_eq_none_iff {slots : Vector (Option Event) 8} :
    freeSlot slots = none ↔ ∀ i : Fin 8, slots[i] ≠ none := by
  simp only [freeSlot, allSlots, ← Fin.find?_eq_find?_finRange, Fin.find?_eq_none_iff,
    Option.isNone_eq_false_iff, Option.isSome_iff_ne_none, ne_eq]

theorem placeArrival_joins {x : Arrival} {i : Fin 8} {e : Event} {s : State} (he : s.assembler.slots[i] = some e)
    (hi : candidateSlot x s.assembler.slots = some i) : placeArrival x s = { s with assembler :=
      { s.assembler with slots := s.assembler.slots.set i (some { e with members := e.members ++ [x] }) } } := by
  rw [placeArrival, hi]
  show State.onAssembler _ _ = _
  rw [State.onAssembler, joinEvent, he, Option.map_some]

theorem placeArrival_opens {x : Arrival} {i : Fin 8} {s : State} (hi : candidateSlot x s.assembler.slots = none)
    (hfree : freeSlot s.assembler.slots = some i) : placeArrival x s = s.onAssembler fun a =>
      { a with
        slots := a.slots.set i (some (openedEvent x (nextEventNumber s.assembler.eventNumber) s.active.test))
        eventNumber := nextEventNumber s.assembler.eventNumber } := by
  rw [placeArrival, hi, hfree]

theorem placeArrival_overflows {x : Arrival} {s : State} (hi : candidateSlot x s.assembler.slots = none)
    (hfull : freeSlot s.assembler.slots = none) :
    placeArrival x s = raise .eventOverflow (countUnassociated s) := by
  rw [placeArrival, hi, hfull]

theorem candidateAt_iff {x : Arrival} {slots : Vector (Option Event) 8} {i : Fin 8} {e : Event} :
    CandidateAt x slots i e ↔ slots[i] = some e ∧ e.first ≤ x.tick ∧ x.tick ≤ e.first + e.window ∧
      (∀ m ∈ e.members, m.chan ≠ x.chan) ∧ e.members.length < 8 := and_congr_right' isCandidate_iff

/-- Settles O29: the best candidate slot, or else the lowest free one, decides. -/
theorem arrivalPlacement : Obligations.ArrivalPlacement := by
  intro x s candidate
  have hcandidate (i e) : candidate i e ↔ CandidateAt x s.assembler.slots i e := candidateAt_iff.symm
  refine ⟨fun i e he hbest => ?_, fun hno => ?_⟩
  · refine placeArrival_joins he.1 (candidateSlot_eq_some_iff.mpr ⟨e, (hcandidate i e).mp he, fun j d hd => ?_⟩)
    exact hbest j d ((hcandidate j d).mpr hd)
  · have hnone : candidateSlot x s.assembler.slots = none :=
      candidateSlot_eq_none_iff.mpr fun i e he => hno i e ((hcandidate i e).mpr he)
    refine ⟨fun i hi hlowest => ?_, fun hfull => placeArrival_overflows hnone (freeSlot_eq_none_iff.mpr hfull)⟩
    intro number opened
    rw [placeArrival_opens hnone (freeSlot_eq_some_iff.mpr ⟨hi, hlowest⟩)]
    have hopened : openedEvent x number s.active.test = opened := by
      show Event.mk .. = Event.mk ..
      congr 1
    rw [← hopened]
    rfl

/-! ## The close of an event (R64 to R74) -/

theorem closeReasonAt_complete {e : Event} {t : Tick} (ht : e.first + e.window < t)
    (hended : ∀ m ∈ e.members, m.ended = true) : closeReasonAt e t = some .complete :=
  if_pos ⟨ht, List.all_eq_true.mpr hended⟩

theorem closeReasonAt_incomplete {e : Event} {t : Tick}
    (h : ¬(e.first + e.window < t ∧ ∀ m ∈ e.members, m.ended = true)) :
    closeReasonAt e t = if e.first + e.window + e.span < t then some .span else none :=
  if_neg fun hc => h ⟨hc.1, List.all_eq_true.mp hc.2⟩

/-- Settles O30: the two tests in their order; the close is `closeEvent` written out. -/
theorem eventClose : Obligations.EventClose := by
  refine ⟨fun e t => ⟨closeReasonAt_complete, fun h hspan => ?_, fun h hspan => ?_⟩, fun i e reason s => rfl⟩
  · exact (closeReasonAt_incomplete h).trans (if_pos hspan)
  · exact (closeReasonAt_incomplete h).trans (if_neg (Nat.not_lt.mpr hspan))

end Sys2Proof.Machine

/-! # ARM and SWAP in IDLE -/

namespace Sys2Proof.Machine

/-- A directive to every channel that goes by the active tables. -/
theorem foldl_onUnits_allChans {f : State → Chan → State} {g : Tables → Chan → ChannelUnit → ChannelUnit}
    (hf : ∀ c s, f s c = s.onUnit c (g s.active c)) (s : State) : allChans.foldl f s =
      s.onUnits fun us => mapVec (fun c => g s.active c us[c]) (Vector.finRange 32) := by
  have hfold (l : List Chan) : ∀ u : State, u.active = s.active →
      l.foldl f u = l.foldl (fun u c => u.onUnit c (g s.active c)) u := by
    induction l with
    | nil => exact fun u _ => rfl
    | cons c l ih =>
      intro u hu
      rw [List.foldl_cons, List.foldl_cons, hf, hu]
      exact ih _ hu
  exact (hfold allChans s rfl).trans (foldl_onUnit_allChans (g s.active) s)

/-! ## ARM (R105) -/

/-- What ARM makes of a channel's unit (R16). -/
def armedUnit (t : Tables) (c : Chan) (u : ChannelUnit) : ChannelUnit :=
  { u with ctx := if modeListens t.channels[c].mode then .ready else .dark, lane := [] }

theorem armUnits_eq (s : State) : armUnits s =
    s.onUnits fun us => mapVec (fun c => armedUnit s.active c us[c]) (Vector.finRange 32) :=
  foldl_onUnits_allChans (g := armedUnit) (fun _ _ => rfl) s

/-- The part with the test begun, before the PHASE record. -/
def testBegun (s : State) : State :=
  { s with
    tracker := .initial, assembler := .initial, controller := { clearTest s.controller with phase := .armed }
    monitor := { s.monitor with pmax := s.monitor.pressure.getD 0 } }

/-- The PHASE record that ARM offers. -/
def armedRecord (s : State) : Record :=
  .phase { old := .idle, new := .armed, settled := none, pressure := s.monitor.pressure, events := 0, hold := none }

theorem armOrder_eq (tag : Byte) (s : State) : armOrder tag s =
    answer (orderAnswer tag .done) ((offerRecord (armedRecord s) (testBegun s)).onUnits fun us =>
      mapVec (fun c => armedUnit s.active c us[c]) (Vector.finRange 32)) := by
  have hreported : Reported (testBegun s) (offerRecord (armedRecord s) (testBegun s)) := .offerRecord _ _
  refine congrArg (answer _) ((armUnits_eq (offerRecord (armedRecord s) (testBegun s))).trans ?_)
  rw [hreported.active]
  rfl

theorem armOrder_inHand (tag : Byte) (k : MgmtKind) (f : Frame) (s : State) : armOrder tag (inHand k f s) =
    answer (orderAnswer tag .done) (inHand k f ((offerRecord (armedRecord s) (testBegun s)).onUnits fun us =>
      mapVec (fun c => armedUnit s.active c us[c]) (Vector.finRange 32))) := by
  have hrecord : armedRecord (inHand k f s) = armedRecord s := rfl
  have hbegun : testBegun (inHand k f s) = inHand k f (testBegun s) := rfl
  have hactive : (inHand k f s).active = s.active := rfl
  rw [armOrder_eq, hrecord, hbegun, hactive, (Apart.inHand k f).offerRecord]
  rfl

theorem orderOf_eq_arm_iff {order argument : Nat} : orderOf order argument = some .arm ↔ order = 1 := by
  refine ⟨fun h => ?_, fun h => by rw [h]; rfl⟩
  unfold orderOf at h
  split at h
  all_goals simp_all

/-- Settles O43: ARM is carried out apart from the frame in hand, and its directives go by the active modes. -/
theorem armBeginsTest : Obligations.ArmBeginsTest := by
  refine ⟨fun order argument => orderOf_eq_arm_iff, fun f s h hidle horder => ?_⟩
  intro cleared recorded
  have hunits : recorded.units = s.units := (Reported.offerRecord _ cleared).units
  refine exec_answered rfl h (Reported.offerRecord _ cleared).responder ?_
  rw [carryOut_order_some horder]
  refine (if_pos hidle).trans ((armOrder_inHand ..).trans ?_)
  have hrecorded : offerRecord (armedRecord s) (testBegun s) = recorded := rfl
  rw [hrecorded, State.onUnits, hunits]
  rfl

/-! ## The copy of a table (R133 to R137) -/

theorem modeSkips_iff {e a : ChannelEntry} :
    modeSkips e a = true ↔ e.mode ≠ .off ∧ a.mode ≠ .off ∧ e.mode ≠ a.mode := by
  rw [modeSkips, Bool.and_eq_true, Bool.and_eq_true, modeListens_iff, modeListens_iff, bne_iff_ne, and_assoc]

theorem copiedChannels_get (staged active : Vector ChannelEntry 32) (c : Chan) :
    (copiedChannels staged active)[c] = copyEntry staged[c] active[c] := by
  simp [copiedChannels]

theorem copiedChannels_eq_staged {staged active : Vector ChannelEntry 32}
    (h : ∀ c : Chan, modeSkips staged[c] active[c] = false) : copiedChannels staged active = staged := by
  ext i hi : 1
  refine (copiedChannels_get staged active ⟨i, hi⟩).trans (if_neg ?_)
  rw [h ⟨i, hi⟩]
  exact Bool.false_ne_true

theorem firstSkipped_eq_some_iff {staged active : Vector ChannelEntry 32} {d : Chan} :
    firstSkipped staged active = some d ↔
      modeSkips staged[d] active[d] = true ∧ ∀ c : Chan, c < d → ¬modeSkips staged[c] active[c] = true := by
  simp only [firstSkipped, allChans, ← Fin.find?_eq_find?_finRange, Fin.find?_eq_some_iff, Bool.not_eq_true]

theorem firstSkipped_eq_none_iff {staged active : Vector ChannelEntry 32} :
    firstSkipped staged active = none ↔ ∀ c : Chan, modeSkips staged[c] active[c] = false := by
  simp only [firstSkipped, allChans, ← Fin.find?_eq_find?_finRange, Fin.find?_eq_none_iff]

/-- Where a channel skips, a lowest one does. -/
theorem exists_firstSkipped {staged active : Vector ChannelEntry 32} {c : Chan}
    (h : modeSkips staged[c] active[c] = true) : ∃ d, firstSkipped staged active = some d ∧ d ≤ c := by
  cases hd : firstSkipped staged active with
  | none => rw [firstSkipped_eq_none_iff.mp hd c] at h; cases h
  | some d => exact ⟨d, rfl, Fin.not_lt.mp fun hlt => (firstSkipped_eq_some_iff.mp hd).2 c hlt h⟩

/-- Consecutive entries in order are all in order. -/
theorem nonDecreasing_iff_pairwise (l : List Nat) : nonDecreasing l = true ↔ l.Pairwise (· ≤ ·) := by
  rw [← List.isChain_iff_pairwise]
  induction l with
  | nil => simp [nonDecreasing]
  | cons a l ih =>
    cases l with
    | nil => simp [nonDecreasing]
    | cons b l => rw [nonDecreasing, Bool.and_eq_true, ih, decide_eq_true_eq, List.isChain_cons_cons]

theorem nonDecreasing_levels_iff (levels : Vector Nat 100) :
    nonDecreasing levels.toList = true ↔ ∀ i j : Fin 100, i ≤ j → levels[i] ≤ levels[j] := by
  rw [nonDecreasing_iff_pairwise, List.pairwise_iff_getElem]
  constructor
  · intro h i j hij
    rcases Nat.lt_or_eq_of_le hij with hlt | heq
    · simpa using h i j (by simp) (by simp) hlt
    · rw [Fin.ext heq]
  · intro h i j hi hj hij
    simpa using h ⟨i, by simpa using hi⟩ ⟨j, by simpa using hj⟩ (Nat.le_of_lt hij)

/-- The staged tables pass validation as the table's name requires (R133). -/
def Validates (staged : Tables) : TableName → Prop
  | .channel | .pair => True
  | .decibel => ∀ i j : Fin 100, i ≤ j → staged.levels[i] ≤ staged.levels[j]
  | .test => staged.test.low < staged.test.high

theorem swapRefuses_eq_false_iff {name : TableName} {staged : Tables} :
    swapRefuses name staged = false ↔ Validates staged name := by
  cases name with
  | channel | pair => exact ⟨fun _ => trivial, fun _ => rfl⟩
  | decibel => exact by rw [swapRefuses, Bool.not_eq_false']; exact nonDecreasing_levels_iff staged.levels
  | test => exact by rw [swapRefuses, Bool.not_eq_false']; exact decide_eq_true_iff

/-- The active tables with one of them copied. -/
def copied (staged : Tables) (name : TableName) (t : Tables) : Tables :=
  match name with
  | .channel => { t with channels := copiedChannels staged.channels t.channels }
  | .pair => { t with pairs := staged.pairs }
  | .decibel => { t with levels := staged.levels }
  | .test => { t with test := staged.test }

/-- The active tables with one of them handled. -/
def handled (staged : Tables) (t : Tables) (name : TableName) : Tables :=
  if swapRefuses name staged then t else copied staged name t

/-- The report that the handling of a table makes, if it makes one (R134, R136). -/
def swapReport (name : TableName) (s : State) : Option (FaultCode × Option Nat) :=
  if swapRefuses name s.staged then some (.tableInvalid, some (tableSelector name))
  else if name = .channel then
    (firstSkipped s.staged.channels s.active.channels).map fun c => (.modeSkip, some c.val)
  else none

/-- A report where there is one. -/
def reportSome (r : Option (FaultCode × Option Nat)) (s : State) : State :=
  match r with
  | some (code, sel) => reportFault code sel s
  | none => s

/-- The handling of a table: the copy, and then its report. -/
theorem swapTable_eq (name : TableName) (s : State) :
    swapTable name s = reportSome (swapReport name s) (s.onActive fun t => handled s.staged t name) := by
  unfold swapTable handled swapReport
  cases hrefuses : swapRefuses name s.staged with
  | true => rfl
  | false =>
    cases name with
    | channel =>
      cases hskipped : firstSkipped s.staged.channels s.active.channels
      all_goals
        simp only
        rfl
    | pair | decibel | test => rfl

end Sys2Proof.Machine

/-! # SWAP in IDLE -/

namespace Sys2Proof.Machine

section
variable {name : TableName} {ts : List TableName} {s : State}

theorem swapTable_silent (h : swapReport name s = none) :
    swapTable name s = s.onActive fun t => handled s.staged t name := by
  rw [swapTable_eq, h, reportSome]

theorem handleTables_cons (h : s.faults.halted = false) :
    handleTables (name :: ts) s = handleTables ts (swapTable name s) := by
  rw [handleTables, if_neg (by simp [h])]

theorem handleTables_one (h : s.faults.halted = false) : handleTables [name] s = swapTable name s := handleTables_cons h

theorem swapReport_of_validates (hvalid : Validates s.staged name)
    (hskips : name = .channel → ∀ c : Chan, modeSkips s.staged.channels[c] s.active.channels[c] = false) :
    swapReport name s = none := by
  unfold swapReport
  rw [swapRefuses_eq_false_iff.mpr hvalid]
  by_cases hname : name = .channel
  · simp [hname, firstSkipped_eq_none_iff.mpr (hskips hname)]
  · simp [hname]

theorem swapReport_of_not_validates (h : ¬Validates s.staged name) :
    swapReport name s = some (.tableInvalid, some (tableSelector name)) := by
  rw [← swapRefuses_eq_false_iff, Bool.not_eq_false] at h
  exact if_pos h

theorem handled_of_not_validates (h : ¬Validates s.staged name) :
    (s.onActive fun t => handled s.staged t name) = s := by
  rw [← swapRefuses_eq_false_iff, Bool.not_eq_false] at h
  simp only [handled, h]
  rfl

theorem reportSome_reported {r : Option (FaultCode × Option Nat)} (h : (reportSome r s).faults.halted = false) :
    Reported s (reportSome r s) := by
  match r with
  | some (code, sel) => exact reportFault_reported h
  | none => exact .refl s

theorem answerTrail_reportFault {code : FaultCode} {sel : Option Nat} (h : (reportFault code sel s).faults.halted = false) :
    answerTrail (reportFault code sel s).outlet = answerTrail s.outlet := by
  have hs : s.faults.halted = false := (reportFault_reported h).halted.symm.trans h
  cases hslot : s.outlet.faultSlot with
  | none => rw [reportFault_first hs hslot, answerTrail_arbitrate]; rfl
  | some r =>
    by_cases hr : r.second = none
    · rw [reportFault_second hs hslot hr]; rfl
    · rw [reportFault_third hs hslot hr, enterHalted_faults] at h
      cases h

theorem answerTrail_reportSome {r : Option (FaultCode × Option Nat)} (h : (reportSome r s).faults.halted = false) :
    answerTrail (reportSome r s).outlet = answerTrail s.outlet := by
  match r with
  | some (code, sel) => exact answerTrail_reportFault h
  | none => rfl

/-- The tables of a SWAP that no report has cut short, one handled after the other. -/
theorem handleTables_running (h : (handleTables ts s).faults.halted = false) :
    (handleTables ts s).active = ts.foldl (handled s.staged) s.active ∧
      answerTrail (handleTables ts s).outlet = answerTrail s.outlet := by
  induction ts generalizing s with
  | nil => exact ⟨rfl, rfl⟩
  | cons name ts ih =>
    by_cases hs : s.faults.halted = true
    · rw [handleTables, if_pos hs] at h
      exact absurd hs (by simp [h])
    · have hs : s.faults.halted = false := Bool.eq_false_iff.mpr hs
      rw [handleTables_cons hs] at h ⊢
      obtain ⟨hactive, htrail⟩ := ih h
      have hrun : (swapTable name s).faults.halted = false := by
        rcases swapTable_cases name s with hswapped | ⟨u, -, e⟩
        · exact hswapped.running.trans hs
        · cases ts with
          | nil => exact h
          | cons n ns =>
            have hhalted : (swapTable name s).faults.halted = true := by rw [e, enterHalted_faults]
            rw [handleTables, if_pos hhalted, hhalted] at h
            cases h
      rw [swapTable_eq] at hrun hactive htrail ⊢
      have hreported := reportSome_reported hrun
      refine ⟨hactive.trans ?_, htrail.trans (answerTrail_reportSome hrun)⟩
      rw [hreported.active, hreported.staged]
      rfl

end

/-! ## The order (R101) -/

/-- Every channel's unit as it is in IDLE. -/
def AllDark (s : State) : Prop := ∀ c : Chan, s.units[c] = { serial := s.units[c].serial, ctx := .dark, lane := [] }

section
variable {name : SwapName} {tag : Byte} {s u : State}

theorem AllDark.congr (h : AllDark s) (hu : u.units = s.units) : AllDark u := by
  unfold AllDark
  rw [hu]
  exact h

/-- In IDLE there is no directive (R135). -/
theorem swapDirectives_idle {before : Vector ChannelEntry 32} (hidle : u.controller.phase = .idle) (hdark : AllDark u) :
    swapDirectives before u = u := by
  refine List.foldl_fixed' (fun c => ?_) allChans
  unfold swapDirective
  split
  · rw [stopUnit_not_open (by rw [hdark c]; simp)]
    exact State.onUnit_eq_self (hdark c).symm
  · rw [hidle]
    rfl
  all_goals rfl

/-- The part that the tables of a SWAP leave. -/
def tablesSwapped (name : SwapName) (s : State) : State := handleTables (swapTables name) s

/-- Whether validation refuses a table of the SWAP. -/
def anyRefused (name : SwapName) (staged : Tables) : Bool := (swapTables name).any fun t => swapRefuses t staged

/-- The handling of the tables leaves the staged copies, and the units and the phase as IDLE has them. -/
theorem tablesSwapped_idle (hrun : s.faults.halted = false) (hidle : s.controller.phase = .idle) (hdark : AllDark s) :
    (tablesSwapped name s).staged = s.staged ∧ (tablesSwapped name s).units = s.units ∧
      (tablesSwapped name s).controller.phase = .idle := by
  rcases handleTables_cases (swapTables name) hrun with hu | ⟨u, hu, e⟩
  · exact ⟨hu.staged, hu.units, hu.phase.trans hidle⟩
  · unfold tablesSwapped
    rw [e, enterHalted_staged, enterHalted_units, enterHalted_controller, hu.units]
    refine ⟨hu.staged, ?_, rfl⟩
    ext i hi : 1
    exact (mapVec_getElem ..).trans (hdark ⟨i, hi⟩).symm

theorem swapOrder_idle (hrun : s.faults.halted = false) (hidle : s.controller.phase = .idle) (hdark : AllDark s) :
    swapOrder name tag s = answer
      (orderAnswer tag (swapCode (tablesSwapped name s).faults.halted (anyRefused name s.staged)))
      (tablesSwapped name s) := by
  obtain ⟨-, hunits, hphase⟩ := tablesSwapped_idle (name := name) hrun hidle hdark
  have hsame : swapDirectives s.active.channels (tablesSwapped name s) = tablesSwapped name s :=
    swapDirectives_idle hphase (hdark.congr hunits)
  refine congrArg (answer _) ?_
  split
  · rfl
  · exact hsame

/-- The table is one of the SWAP's. -/
def Takes (name : SwapName) (t : TableName) : Prop := name = .one t ∨ name = .all

theorem takes_of_mem {t : TableName} (h : t ∈ swapTables name) : Takes name t := by
  cases name with
  | one n => exact .inl (by rw [List.mem_singleton.mp h])
  | all => exact .inr rfl

theorem mem_of_takes {t : TableName} (h : Takes name t) : t ∈ swapTables name := by
  rcases h with rfl | rfl
  · exact List.mem_singleton.mpr rfl
  · cases t <;> simp [swapTables]

theorem anyRefused_eq_true_iff {staged : Tables} : anyRefused name staged = true ↔
    (Takes name .decibel ∧ ¬Validates staged .decibel) ∨ (Takes name .test ∧ ¬Validates staged .test) := by
  simp only [anyRefused, List.any_eq_true, ← swapRefuses_eq_false_iff, Bool.not_eq_false]
  constructor
  · rintro ⟨t, hmem, hrefuses⟩
    cases t with
    | channel | pair => cases hrefuses
    | decibel => exact .inl ⟨takes_of_mem hmem, hrefuses⟩
    | test => exact .inr ⟨takes_of_mem hmem, hrefuses⟩
  · rintro (⟨htakes, hrefuses⟩ | ⟨htakes, hrefuses⟩)
    all_goals exact ⟨_, mem_of_takes htakes, hrefuses⟩

end

/-- The active tables that a SWAP running to its end leaves. -/
def swappedTables (name : SwapName) (staged t : Tables) : Tables := (swapTables name).foldl (handled staged) t

section
variable (staged t : Tables)

theorem handled_channel : handled staged t .channel = { t with channels := copiedChannels staged.channels t.channels } := rfl

theorem handled_pair : handled staged t .pair = { t with pairs := staged.pairs } := rfl

theorem handled_decibel : handled staged t .decibel =
    { t with levels := if swapRefuses .decibel staged = false then staged.levels else t.levels } := by
  unfold handled
  cases swapRefuses .decibel staged <;> rfl

theorem handled_test : handled staged t .test =
    { t with test := if swapRefuses .test staged = false then staged.test else t.test } := by
  unfold handled
  cases swapRefuses .test staged <;> rfl

/-- A table of the SWAP is copied exactly when it passes validation, and no other is. -/
theorem swappedTables_eq (name : SwapName) (staged t : Tables) : swappedTables name staged t =
    { channels := if name = .one .channel ∨ name = .all then copiedChannels staged.channels t.channels else t.channels
      pairs := if name = .one .pair ∨ name = .all then staged.pairs else t.pairs
      levels := if (name = .one .decibel ∨ name = .all) ∧ swapRefuses .decibel staged = false then staged.levels
        else t.levels
      test := if (name = .one .test ∨ name = .all) ∧ swapRefuses .test staged = false then staged.test else t.test } := by
  cases name with
  | one n =>
    cases n with
    | channel | pair => simp [swappedTables, swapTables, handled_channel, handled_pair]
    | decibel => simp [swappedTables, swapTables, handled_decibel]
    | test => simp [swappedTables, swapTables, handled_test]
  | all => simp [swappedTables, swapTables, handled_channel, handled_pair, handled_decibel, handled_test]

/-- A SWAP of which validation refuses no table and no channel skips. -/
theorem swappedTables_of_validates {name : SwapName} {staged t : Tables} (hvalid : ∀ n, Takes name n → Validates staged n)
    (hskips : Takes name .channel → ∀ c : Chan, modeSkips staged.channels[c] t.channels[c] = false) :
    swappedTables name staged t =
      { channels := if name = .one .channel ∨ name = .all then staged.channels else t.channels
        pairs := if name = .one .pair ∨ name = .all then staged.pairs else t.pairs
        levels := if name = .one .decibel ∨ name = .all then staged.levels else t.levels
        test := if name = .one .test ∨ name = .all then staged.test else t.test } := by
  have hchannels : (if name = .one .channel ∨ name = .all then copiedChannels staged.channels t.channels else t.channels)
      = if name = .one .channel ∨ name = .all then staged.channels else t.channels := by
    split
    · next htakes => exact copiedChannels_eq_staged (hskips htakes)
    · rfl
  have hcopies {n : TableName} :
      ((name = .one n ∨ name = .all) ∧ swapRefuses n staged = false) = (name = .one n ∨ name = .all) :=
    propext (and_iff_left_of_imp fun htakes => swapRefuses_eq_false_iff.mpr (hvalid n htakes))
  rw [swappedTables_eq, hchannels]
  simp only [hcopies]

end

/-! ## The order as a whole -/

section
variable {f : Frame} {s : State} {name : SwapName}

theorem reportFault_inHand {code : FaultCode} {sel : Option Nat} (k : MgmtKind) (hrun : s.faults.halted = false)
    (hslot : s.outlet.faultSlot = none) :
    reportFault code sel (inHand k f s) = inHand k f (reportFault code sel s) := by
  rw [reportFault_first hrun hslot, reportFault_first (s := inHand k f s) hrun hslot, ← (Apart.inHand k f).arbitrate]
  rfl

/-- What SWAP in IDLE does of itself. -/
theorem exec_swap_idle (h : Accepted .order f s) (hidle : s.controller.phase = .idle) (hdark : AllDark s)
    (horder : orderOf (fieldAt f.payload 1 1) (fieldAt f.payload 2 1) = some (.swap name)) :
    carryOut (frameInHand .order f) (inHand .order f s) = answer (orderAnswer (byteAt f.payload 0)
      (swapCode (tablesSwapped name (inHand .order f s)).faults.halted (anyRefused name s.staged)))
      (tablesSwapped name (inHand .order f s)) :=
  (carryOut_order_some horder).trans
    ((if_pos hidle).trans (swapOrder_idle (s := inHand .order f s) h.running hidle hdark))

/-- A SWAP whose tables leave a part with the frame in hand, running. -/
theorem exec_swap_of_tables {t : State} (h : Accepted .order f s) (hidle : s.controller.phase = .idle) (hdark : AllDark s)
    (horder : orderOf (fieldAt f.payload 1 1) (fieldAt f.payload 2 1) = some (.swap name))
    (htables : tablesSwapped name (inHand .order f s) = inHand .order f t) (hr : t.responder = s.responder)
    (ht : t.faults.halted = false) : exec (.swap f) s = .next
      (answered (replyTo .order f (if anyRefused name s.staged then .refusedInvalid else .done) .none) t) := by
  refine exec_answered rfl h hr ((exec_swap_idle h hidle hdark horder).trans ?_)
  have hhalted : (tablesSwapped name (inHand .order f s)).faults.halted = false := by rw [htables]; exact ht
  rw [hhalted, htables]
  rfl

theorem tablesSwapped_silent (hrun : s.faults.halted = false) (hvalid : ∀ t, Takes name t → Validates s.staged t)
    (hskips : Takes name .channel → ∀ c : Chan, modeSkips s.staged.channels[c] s.active.channels[c] = false) :
    tablesSwapped name s = s.onActive (swappedTables name s.staged) := by
  have hsilent {n : TableName} {a : Tables} (hn : Takes name n) (ha : a.channels = s.active.channels ∨ n ≠ .channel) :
      swapTable n (s.onActive fun _ => a) = s.onActive fun _ => handled s.staged a n := by
    refine swapTable_silent (swapReport_of_validates (hvalid n hn) fun hchannel => ?_)
    subst hchannel
    rcases ha with ha | ha
    · rw [State.onActive_active, ha]
      exact hskips hn
    · exact absurd rfl ha
  cases name with
  | one n => exact (handleTables_one hrun).trans (hsilent (a := s.active) (.inl rfl) (.inl rfl))
  | all =>
    have hrunning (a : Tables) : (s.onActive fun _ => a).faults.halted = false := hrun
    show handleTables [_, _, _, _] (s.onActive fun _ => s.active) = _
    rw [handleTables_cons (hrunning _), hsilent (.inr rfl) (.inl rfl), handleTables_cons (hrunning _),
      hsilent (.inr rfl) (.inr (by simp)), handleTables_cons (hrunning _), hsilent (.inr rfl) (.inr (by simp)),
      handleTables_one (hrunning _), hsilent (.inr rfl) (.inr (by simp))]
    rfl

/-- A SWAP of one table whose handling makes a first report. -/
theorem exec_swap_reported {n : TableName} {code : FaultCode} {sel : Option Nat} (h : Accepted .order f s)
    (hidle : s.controller.phase = .idle) (hdark : AllDark s)
    (horder : orderOf (fieldAt f.payload 1 1) (fieldAt f.payload 2 1) = some (.swap (.one n)))
    (hslot : s.outlet.faultSlot = none) (hreport : swapReport n s = some (code, sel)) :
    exec (.swap f) s = .next (answered
      (replyTo .order f (if anyRefused (.one n) s.staged then .refusedInvalid else .done) .none)
      (reportFault code sel (s.onActive fun t => handled s.staged t n))) := by
  have htables : tablesSwapped (.one n) (inHand .order f s) =
      inHand .order f (reportFault code sel (s.onActive fun t => handled s.staged t n)) := by
    refine (handleTables_one (s := inHand .order f s) h.running).trans ((swapTable_eq n (inHand .order f s)).trans ?_)
    have hsame : swapReport n (inHand .order f s) = some (code, sel) := hreport
    rw [hsame]
    exact reportFault_inHand (s := s.onActive fun t => handled s.staged t n) .order h.running hslot
  have hreported : Reported (s.onActive fun t => handled s.staged t n)
      (reportFault code sel (s.onActive fun t => handled s.staged t n)) := by
    rw [reportFault_first (s := s.onActive fun t => handled s.staged t n) h.running hslot]
    exact (Reported.onOutlet _ _).trans (.arbitrate _)
  exact exec_swap_of_tables h hidle hdark horder htables hreported.responder (hreported.halted.trans h.running)

end

/-- R171's codes of the SWAP tables. -/
def swapNumber : SwapName → Nat
  | .one .channel => 0
  | .one .pair => 1
  | .one .decibel => 2
  | .one .test => 3
  | .all => 4

theorem swapNameOf_eq_some_iff {n : Nat} {name : SwapName} : swapNameOf n = some name ↔ n = swapNumber name := by
  constructor
  · match n with
    | 0 | 1 | 2 | 3 | 4 => rintro ⟨⟩; rfl
    | n + 5 => rintro ⟨⟩
  · rintro rfl
    rcases name with (_ | _ | _ | _) | _ <;> rfl

theorem orderOf_eq_swap_iff {order argument : Nat} {name : SwapName} :
    orderOf order argument = some (.swap name) ↔ order = 7 ∧ argument = swapNumber name := by
  rw [← swapNameOf_eq_some_iff]
  constructor
  · intro h
    unfold orderOf at h
    split at h
    all_goals simp_all
  · rintro ⟨rfl, h⟩
    rw [orderOf, h]
    rfl

section
variable {f : Frame} {s : State} {name : SwapName}

/-- The part that SWAP in IDLE leaves, whether or not a report has halted it. -/
theorem exec_swap_leaves (h : Accepted .order f s) (hidle : s.controller.phase = .idle) (hdark : AllDark s)
    (horder : orderOf (fieldAt f.payload 1 1) (fieldAt f.payload 2 1) = some (.swap name)) :
    ∃ t, exec (.swap f) s = .next t ∧ t.staged = s.staged ∧ t.units = s.units ∧ t.controller.phase = .idle ∧
      (t.faults.halted = false → t.active = swappedTables name s.staged s.active ∧
        answerTrail t.outlet = answerTrail s.outlet ++
          [replyTo .order f (if anyRefused name s.staged then .refusedInvalid else .done) .none]) := by
  have hexec : exec (.swap f) s = _ :=
    (exec_accepted rfl h).trans (congrArg (fun t => Host.Outcome.next (release t)) (exec_swap_idle h hidle hdark horder))
  obtain ⟨hstaged, hunits, hphase⟩ := tablesSwapped_idle (name := name) (s := inHand .order f s) h.running hidle hdark
  refine ⟨_, hexec, (answer_staged ..).trans hstaged, (answer_units ..).trans hunits, (answer_phase ..).trans hphase,
    fun hrun => ?_⟩
  have hrun : (tablesSwapped name (inHand .order f s)).faults.halted = false := (answer_halted ..).symm.trans hrun
  obtain ⟨hactive, htrail⟩ := handleTables_running hrun
  refine ⟨(answer_active ..).trans hactive, (answerTrail_answer ..).trans ?_⟩
  rw [hrun]
  exact congrArg (· ++ _) htrail

end

/-- Settles O44: in IDLE a SWAP is the handling of its tables, each of them `handled`, and its answer. -/
theorem swapInIdle : Obligations.SwapInIdle := by
  refine ⟨fun order argument name => ?_, fun f s name h hidle horder hdark => ?_, fun staged active c => ?_,
    fun staged active d => ?_⟩
  · refine orderOf_eq_swap_iff.trans ?_
    rcases name with (_ | _ | _ | _) | _ <;> rfl
  · intro takes rising reply
    have htakes (t) : takes t ↔ Takes name t := Iff.rfl
    have hrising : rising ↔ swapRefuses .decibel s.staged = false :=
      (swapRefuses_eq_false_iff (name := .decibel)).symm
    have htest : s.staged.test.low < s.staged.test.high ↔ swapRefuses .test s.staged = false :=
      (swapRefuses_eq_false_iff (name := .test)).symm
    have hrefused : anyRefused name s.staged = true ↔
        (takes .decibel ∧ ¬rising) ∨ (takes .test ∧ s.staged.test.high ≤ s.staged.test.low) := by
      rw [anyRefused_eq_true_iff, ← Nat.not_lt]
      rfl
    refine ⟨fun hskips hdecibel htest => ?_, ?_, fun hslot => ⟨?_, ?_, ?_⟩⟩
    · have hvalid (t) (ht : Takes name t) : Validates s.staged t := by
        cases t with
        | channel | pair => trivial
        | decibel => exact hdecibel ht
        | test => exact htest ht
      have hnone : anyRefused name s.staged = false :=
        Bool.eq_false_iff.mpr fun hany => (anyRefused_eq_true_iff.mp hany).elim (fun ⟨ht, hno⟩ => hno (hvalid _ ht))
          fun ⟨ht, hno⟩ => hno (hvalid _ ht)
      have htables : tablesSwapped name (inHand .order f s) =
          inHand .order f (s.onActive (swappedTables name s.staged)) :=
        tablesSwapped_silent (s := inHand .order f s) h.running hvalid hskips
      have hexec := exec_swap_of_tables h hidle hdark horder htables rfl h.running
      rw [hnone, State.onActive, swappedTables_of_validates hvalid hskips] at hexec
      exact hexec
    · obtain ⟨t, hexec, hstaged, hunits, hphase, hrest⟩ := exec_swap_leaves h hidle hdark horder
      refine ⟨t, hexec, hstaged, hunits, hphase, fun hrun => ?_⟩
      obtain ⟨hactive, htrail⟩ := hrest hrun
      rw [hactive, swappedTables_eq, ← hrefused]
      refine ⟨rfl, rfl, fun ht hr => if_pos ⟨ht, hrising.mp hr⟩, ?_, fun ht hr => if_pos ⟨ht, htest.mp hr⟩, ?_,
        fun hany => ?_, fun hany => ?_⟩
      · rw [hrising]
        exact or_iff_not_imp_left.mpr fun hno => if_neg hno
      · rw [htest]
        exact or_iff_not_imp_left.mpr fun hno => if_neg hno
      · rw [htrail, if_pos hany]
      · rw [htrail, if_neg hany]
    · rintro rfl hno
      have hexec := exec_swap_reported h hidle hdark horder hslot (swapReport_of_not_validates (name := .decibel) hno)
      rw [hrefused.mpr (.inl ⟨.inl rfl, hno⟩), handled_of_not_validates (name := .decibel) hno] at hexec
      exact hexec
    · rintro rfl hno
      have hexec := exec_swap_reported h hidle hdark horder hslot
        (swapReport_of_not_validates (name := .test) (Nat.not_lt.mpr hno))
      rw [hrefused.mpr (.inr ⟨.inl rfl, hno⟩), handled_of_not_validates (name := .test) (Nat.not_lt.mpr hno)] at hexec
      exact hexec
    · rintro d rfl hd
      have hreport : swapReport .channel s = some (.modeSkip, some d.val) := by
        unfold swapReport
        rw [hd]
        rfl
      have hexec := exec_swap_reported h hidle hdark horder hslot hreport
      have hnone : anyRefused (.one .channel) s.staged = false := rfl
      have hcopied : (s.onActive fun t => handled s.staged t .channel) = { s with active :=
          { s.active with channels := copiedChannels s.staged.channels s.active.channels } } := rfl
      rw [hnone, hcopied] at hexec
      exact hexec
  · rw [copiedChannels_get]
    refine ⟨fun hskips => ?_, fun hskips => if_neg fun hc => hskips (modeSkips_iff.mp hc)⟩
    exact ⟨if_pos (modeSkips_iff.mpr hskips), exists_firstSkipped (modeSkips_iff.mpr hskips)⟩
  · rw [firstSkipped_eq_some_iff]
    simp only [modeSkips_iff]

end Sys2Proof.Machine

/-! # Close reports -/

namespace Sys2Proof.Machine

section
variable {r : CloseReport} {s : State}

/-- The part with the close counted (R122). -/
def eventCounted (s : State) : State := onCounters (fun k => { k with events := countOn k.events }) s

/-- The part with a close noted in the phase event count and its marks (R106, R122). -/
def phaseNoted (s : State) : State :=
  setMarks (eventsHold (countOn s.controller.phaseEvents))
    (s.onController fun c => { c with phaseEvents := countOn c.phaseEvents })

theorem closeCounted_guarded (h : r.cls = .guarded) :
    closeCounted r s = onCounters (fun k => { k with guarded := countOn k.guarded }) (eventCounted s) := by
  unfold closeCounted
  rw [h]
  rfl

theorem closeCounted_normal (h : r.cls = .normal) : closeCounted r s = normalClose r (eventCounted s) := by
  unfold closeCounted
  rw [h]
  rfl

theorem normalClose_eq (r : CloseReport) (s : State) : normalClose r s =
    match s.controller.phase with
    | .hold => holdClose r.first (phaseNoted s)
    | .ramp => rampClose r.number (phaseNoted s)
    | .idle | .armed | .unload | .muted | .burst => phaseNoted s := rfl

theorem normalClose_hold (h : s.controller.phase = .hold) : normalClose r s = holdClose r.first (phaseNoted s) := by
  rw [normalClose_eq, h]

theorem normalClose_ramp (h : s.controller.phase = .ramp) : normalClose r s = rampClose r.number (phaseNoted s) := by
  rw [normalClose_eq, h]

theorem normalClose_other (hhold : s.controller.phase ≠ .hold) (hramp : s.controller.phase ≠ .ramp) :
    normalClose r s = phaseNoted s := by
  rw [normalClose_eq]
  cases hphase : s.controller.phase with
  | hold => exact absurd hphase hhold
  | ramp => exact absurd hphase hramp
  | idle | armed | unload | muted | burst => rfl

theorem isRupture_counted (r : CloseReport) (s : State) : isRupture r (closeCounted r s) = isRupture r s := by
  rw [isRupture, (Noted.closeCounted r s).phase, (Noted.closeCounted r s).active, isRupture]

theorem closeReport_below (h : rupturePhase s.controller.phase = false ∨ r.clipped < s.active.test.quorum) :
    closeReport r s = closeCounted r s := by
  rw [closeReport_eq, isRupture_counted]
  refine if_neg ?_
  rcases h with h | h
  · simp [isRupture, h]
  · simp [isRupture, h]

theorem closeReport_rupture (hphase : rupturePhase s.controller.phase = true) (hquorum : s.active.test.quorum ≤ r.clipped) :
    closeReport r s = rupture r (closeCounted r s) := by
  rw [closeReport_eq, isRupture_counted]
  exact if_pos (Bool.and_eq_true_iff.mpr ⟨hphase, decide_eq_true hquorum⟩)

theorem eventsHold_eq (n : Nat) :
    eventsHold n = fun m => decide (m.source = .eventsInPhase ∧ m.parameter ≤ n) := by
  funext m
  rw [eventsHold, Bool.decide_and]
  rfl

theorem holdClose_some {h : Hold} {first : Tick} (hhold : s.controller.hold = some h) : holdClose first s =
    if s.active.test.holdLimit < countUp 65535 h.tally then
      raise .holdActive (s.onController fun c =>
        { c with hold := some { entry := h.entry, tally := countUp 65535 h.tally, quietRef := first } })
    else s.onController fun c =>
      { c with hold := some { entry := h.entry, tally := countUp 65535 h.tally, quietRef := first } } := by
  rw [holdClose, hhold]
  rfl

/-- The ramp with one more event (R119). -/
def rampCounted (r : Ramp) : Ramp := { r with events := countUp 65535 r.events }

theorem rampClose_counts {n : Nat} {ramp : Ramp} (hramp : s.controller.ramp = some ramp)
    (h : ramp.reload = false ∨ ramp.onset ≠ .undecided ∨ (rampCounted ramp).events < s.active.test.onsetCount) :
    rampClose n s = s.onController fun c => { c with ramp := some (rampCounted ramp) } := by
  rw [rampClose, hramp]
  refine if_neg fun hdecides => ?_
  obtain ⟨hfirst, hcount⟩ := Bool.and_eq_true_iff.mp hdecides
  obtain ⟨hreload, honset⟩ := Bool.and_eq_true_iff.mp hfirst
  rcases h with h | h | h
  · exact Bool.false_ne_true (h.symm.trans hreload)
  · exact h (beq_iff_eq.mp honset)
  · exact Nat.not_le.mpr h (of_decide_eq_true hcount)

theorem rampClose_decides {n : Nat} {ramp : Ramp} (hramp : s.controller.ramp = some ramp) (hreload : ramp.reload = true)
    (honset : ramp.onset = .undecided) (h : s.active.test.onsetCount ≤ (rampCounted ramp).events) :
    rampClose n s = offerRecord (.onset (onsetDecided (rampCounted ramp) n s))
      (s.onController fun c => { c with ramp := some { rampCounted ramp with onset := .decided } }) := by
  rw [rampClose, hramp]
  refine if_pos ?_
  exact Bool.and_eq_true_iff.mpr ⟨Bool.and_eq_true_iff.mpr ⟨hreload, beq_iff_eq.mpr honset⟩, decide_eq_true h⟩

end

/-- Settles O34: the report is counted and noted, and then the phase decides. -/
theorem closeReportCounts : Obligations.CloseReportCounts := by
  intro r s hbelow n holds counted noted
  rw [closeReport_below hbelow]
  have hnoted : phaseNoted (eventCounted s) = noted := by
    unfold phaseNoted
    rw [eventsHold_eq]
    rfl
  refine ⟨closeCounted_guarded, fun hcls hhold hramp => ?_, fun h hcls hphase hhold => ?_,
    fun ramp hcls hphase hramp => ?_⟩
  · rw [closeCounted_normal hcls, normalClose_other (s := eventCounted s) hhold hramp, hnoted]
  · intro tally held
    rw [closeCounted_normal hcls, normalClose_hold (s := eventCounted s) hphase, hnoted]
    exact holdClose_some (s := noted) hhold
  · intro events hno
    rw [closeCounted_normal hcls, normalClose_ramp (s := eventCounted s) hphase, hnoted]
    exact rampClose_counts (s := noted) hramp hno

/-- The record of the decision, of a part with the pressure, the tracker and the tables of `s` (R121). -/
theorem onsetDecided_congr {ramp : Ramp} {pref n : Nat} {s t : State} (hpref : ramp.pref = some pref)
    (hactive : t.active = s.active) (htracker : t.tracker = s.tracker) (hmonitor : t.monitor = s.monitor) :
    onsetDecided ramp n t =
      { ramp := ramp.number, outcome := .decided, pref := pref, count := s.active.test.onsetCount, events := ramp.events
        settled := s.tracker.settled.getD 0, deciding := some n, pon := s.monitor.pressure
        ratio := s.monitor.pressure.map fun p => min (p * 1000 / pref) 1000
        above := s.monitor.pressure.any fun p => decide (pref ≤ p)
        stale := s.monitor.stale } := by
  unfold onsetDecided
  simp only [hpref, hactive, hmonitor, passTick, htracker, Option.getD_some]
  cases s.monitor.pressure <;> rfl

/-- Settles O35: the close brings the ramp to the onset count, so `rampClose` decides. -/
theorem onsetDecision : Obligations.OnsetDecision := by
  intro r ramp pref s hcls hclipped hphase hramp hreload honset hpref events hcount n holds counted decided
  have hdecided : { rampCounted ramp with onset := .decided } = decided := by
    unfold rampCounted
    rw [hreload, hpref]
    rfl
  rw [closeReport_below (.inr hclipped), closeCounted_normal hcls, normalClose_ramp (s := eventCounted s) hphase,
    rampClose_decides (s := phaseNoted (eventCounted s)) hramp hreload honset hcount,
    onsetDecided_congr (t := phaseNoted (eventCounted s)) (s := s) (ramp := rampCounted ramp) hpref rfl rfl rfl, hdecided, phaseNoted, eventsHold_eq]
  rfl

end Sys2Proof.Machine

/-! # Changes of phase and the rupture -/

namespace Sys2Proof.Machine

/-! ## What a change of phase offers (R97, R117, R120) -/

section
variable {s t : State} {new : Phase}

theorem onsetOwed_congr (hramp : t.controller.ramp = s.controller.ramp) (hactive : t.active = s.active)
    (htracker : t.tracker = s.tracker) : onsetOwed t = onsetOwed s := by
  unfold onsetOwed passTick
  rw [hramp, hactive, htracker]

theorem Reported.onsetOwed (h : Reported s t) : Machine.onsetOwed t = Machine.onsetOwed s :=
  onsetOwed_congr h.ramp h.active h.tracker

theorem Reported.offerSome (r : Option Record) (s : State) : Reported s (offerSome r s) := by
  cases r with
  | none => exact .refl s
  | some r => exact .offerRecord r s

/-- The part with its ramp ended, and the ONSET record that it owes offered. -/
def rampEnded (s : State) : State :=
  (offerSome ((onsetOwed s).map .onset) s).onController fun c => { c with ramp := none }

theorem endRamp_eq (s : State) : endRamp s = rampEnded s := by
  unfold endRamp rampEnded onsetOwed
  cases hramp : s.controller.ramp with
  | none =>
    show s = s.onController fun c => { c with ramp := none }
    rw [State.onController, ← hramp]
  | some r =>
    dsimp only
    by_cases howed : r.reload = true ∧ r.onset = .undecided
    · have : (r.reload && r.onset == .undecided) = true := by simp [howed]
      rw [if_pos howed, if_pos this]
      rfl
    · have : ¬(r.reload && r.onset == .undecided) = true := by simpa using howed
      rw [if_neg howed, if_neg this]
      rfl

/-- The part with the ramp or the hold of the phase that it leaves ended. -/
def phaseEnded (s : State) : State :=
  if s.controller.phase = .ramp then rampEnded s
  else if s.controller.phase = .hold then s.onController fun c => { c with hold := none }
  else s

theorem leavePhase_eq (hnew : new ≠ .muted) (s : State) : leavePhase new s = phaseEnded s := by
  unfold leavePhase phaseEnded
  cases s.controller.phase with
  | ramp => exact (if_neg hnew).trans (endRamp_eq s)
  | hold | idle | armed | unload | muted | burst => rfl

/-- The hold part of the PHASE record. -/
def heldPart (interrupted : Bool) (s : State) : Option HoldPart :=
  if s.controller.phase = .hold then
    s.controller.hold.map fun h => { tally := h.tally, span := passTick s - h.entry, interrupted }
  else none

theorem heldPart_congr {b : Bool} (hphase : t.controller.phase = s.controller.phase)
    (hhold : t.controller.hold = s.controller.hold) (htracker : t.tracker = s.tracker) : heldPart b t = heldPart b s := by
  unfold heldPart passTick
  rw [hphase, hhold, htracker]

theorem leavingHold_eq (hnew : new ≠ .muted) (s : State) : leavingHold new s = heldPart false s := by
  have : (new == .muted) = false := by simpa using hnew
  unfold leavingHold holdPart
  rw [this]
  rfl

theorem phaseEnded_congr_fields (s : State) :
    (phaseEnded s).tracker = s.tracker ∧ (phaseEnded s).monitor = s.monitor := by
  have offered := Reported.offerSome ((onsetOwed s).map .onset) s
  unfold phaseEnded
  split
  · exact ⟨offered.tracker, offered.monitor⟩
  · split <;> exact ⟨rfl, rfl⟩

theorem changePhase_eq (hnew : new ≠ .muted) (s : State) : changePhase new s = offerRecord (.phase
    { old := s.controller.phase, new := new, settled := s.tracker.settled, pressure := s.monitor.pressure
      events := (phaseEnded s).controller.counters.events, hold := heldPart false s })
    ((phaseEnded s).onController fun c => { c with phase := new, phaseEvents := 0 }) := by
  obtain ⟨htracker, hmonitor⟩ := phaseEnded_congr_fields s
  unfold changePhase phaseRecord
  dsimp only
  rw [leavePhase_eq hnew, leavingHold_eq hnew, State.onController_tracker, State.onController_monitor, htracker, hmonitor]
  rfl

end

/-! ## What a rupture adds to (R124) -/

/-- `t` has built the answers that `s` has, and holds its records, its pending conditions and its marks. -/
structure Followed (s t : State) : Prop where
  answers : answerTrail t.outlet = answerTrail s.outlet
  records : recordTrail s.outlet <+: recordTrail t.outlet
  pendingSet : ∀ c, s.faults.pendingSet.has c = true → t.faults.pendingSet.has c = true
  mark0 : s.controller.mark0 = true → t.controller.mark0 = true
  mark1 : s.controller.mark1 = true → t.controller.mark1 = true

/-- The marks of `s` stand in `t`. -/
def MarksStand (s t : State) : Prop :=
  (s.controller.mark0 = true → t.controller.mark0 = true) ∧ (s.controller.mark1 = true → t.controller.mark1 = true)

namespace MarksStand
variable {s t u : State}

theorem refl (s : State) : MarksStand s s := ⟨id, id⟩

theorem trans (h : MarksStand s t) (g : MarksStand t u) : MarksStand s u := ⟨g.1 ∘ h.1, g.2 ∘ h.2⟩

theorem setMarks (p : MarkSpec → Bool) (s : State) : MarksStand s (setMarks p s) :=
  ⟨fun h => Bool.or_eq_true_iff.mpr (.inl h), fun h => Bool.or_eq_true_iff.mpr (.inl h)⟩

theorem raiseWith {offer : Record → State → State} (ho : ∀ r s, MarksStand s (offer r s)) (c : Condition) (s : State) :
    MarksStand s (Machine.raiseWith offer c s) := by
  unfold Machine.raiseWith
  dsimp only
  split
  · exact refl s
  · split
    · split
      all_goals exact ho _ (s.onFaults fun x => { x with pendingSet := x.pendingSet.insert c })
    · exact refl s

theorem enterDense {offer : Record → State → State} (ho : ∀ r s, MarksStand s (offer r s)) (s : State) :
    MarksStand s (Machine.enterDense offer s) :=
  (setMarks denseHolds s).trans (raiseWith ho _ (Machine.setMarks denseHolds (s.onOutlet _)))

theorem offerDepth (d : Nat) (r : Record) (s : State) : MarksStand s (offerDepth d r s) := by
  induction d generalizing r s with
  | zero => exact refl s
  | succ d ih =>
    unfold Machine.offerDepth
    split
    · exact refl s
    · exact refl s
    · exact raiseWith ih _ (Machine.onCounters _ s)
    · dsimp only
      split
      · exact enterDense ih (Machine.pushRecord r s)
      · exact refl s

theorem offerRecord (r : Record) (s : State) : MarksStand s (offerRecord r s) := by
  rw [MarksStand, Machine.offerRecord, arbitrate_controller]
  exact offerDepth 3 r s

theorem raise (c : Condition) (s : State) : MarksStand s (raise c s) := by
  rw [MarksStand, Machine.raise, arbitrate_controller]
  exact raiseWith (offerDepth 3) c s

end MarksStand

namespace Followed
variable {s t u : State}

theorem refl (s : State) : Followed s s := ⟨rfl, List.prefix_rfl, fun _ => id, id, id⟩

theorem trans (h : Followed s t) (g : Followed t u) : Followed s u :=
  ⟨g.answers.trans h.answers, h.records.trans g.records, fun c => g.pendingSet c ∘ h.pendingSet c, g.mark0 ∘ h.mark0,
    g.mark1 ∘ h.mark1⟩

/-- The two stand alike in the outlet, the conditions and the marks. -/
theorem of_eq (ho : t.outlet = s.outlet) (hf : t.faults = s.faults) (hm : MarksStand s t) : Followed s t :=
  ⟨by rw [ho], by rw [ho], by rw [hf]; exact fun _ => id, hm.1, hm.2⟩

theorem of_offered (ho : Offered s u) (hm : MarksStand s (arbitrate u)) : Followed s (arbitrate u) :=
  ⟨(answerTrail_arbitrate u).trans ho.answerTrail, by rw [recordTrail_arbitrate]; exact ho.recordTrail,
    by rw [arbitrate_faults]; exact ho.pendingSet, hm.1, hm.2⟩

theorem offer (r : Record) (s : State) : Followed s (offerRecord r s) :=
  of_offered (.offerDepth 3 r s) (.offerRecord r s)

theorem raise (c : Condition) (s : State) : Followed s (raise c s) :=
  of_offered (.raiseWith (.offerDepth 3) c s) (.raise c s)

theorem setMarks (p : MarkSpec → Bool) (s : State) : Followed s (setMarks p s) := of_eq rfl rfl (.setMarks p s)

theorem onController (f : Controller → Controller) (s : State) (h0 : (f s.controller).mark0 = s.controller.mark0)
    (h1 : (f s.controller).mark1 = s.controller.mark1) : Followed s (s.onController f) :=
  of_eq rfl rfl ⟨h0.trans, h1.trans⟩

theorem moves : UnitMoves Followed where
  refl := refl
  trans := trans
  offer := offer
  raise := raise
  counters _ s := onController _ s rfl rfl
  units _ s := of_eq rfl rfl (.refl s)
  draws _ s := of_eq rfl rfl (.refl s)
  list _ s _ := of_eq rfl rfl (.refl s)
  notice _ _ _ s _ := of_eq rfl rfl (.refl s)
  inFlight _ s := of_eq rfl rfl (.refl s)

theorem stopAll (ph : Phase) (b : Bool) (s : State) : Followed s (stopAll ph b s) :=
  moves.foldl (fun c s => moves.stopUnit ph b c s) _ s

theorem offerSome (r : Option Record) (s : State) : Followed s (offerSome r s) := by
  cases r with
  | none => exact refl s
  | some r => exact offer r s

theorem phaseEnded (s : State) : Followed s (phaseEnded s) :=
  moves.ite (fun _ => (offerSome _ s).trans (onController _ _ rfl rfl)) fun _ =>
    moves.ite (fun _ => onController _ s rfl rfl) fun _ => refl s

theorem changePhase {new : Phase} (hnew : new ≠ .muted) (s : State) : Followed s (changePhase new s) := by
  rw [changePhase_eq hnew]
  exact (phaseEnded s).trans ((onController _ _ rfl rfl).trans (offer _ _))

theorem holdClose (first : Tick) (s : State) : Followed s (holdClose first s) := by
  unfold Machine.holdClose
  split
  · exact refl s
  · exact moves.ite (fun _ => (onController _ s rfl rfl).trans (raise _ _)) fun _ => onController _ s rfl rfl

theorem rampClose (n : Nat) (s : State) : Followed s (rampClose n s) := by
  unfold Machine.rampClose
  split
  · exact refl s
  · exact moves.ite (fun _ => (onController _ s rfl rfl).trans (offer _ _)) fun _ => onController _ s rfl rfl

theorem normalClose (r : CloseReport) (s : State) : Followed s (normalClose r s) := by
  have noted : Followed s (phaseNoted s) := (onController _ s rfl rfl).trans (setMarks _ _)
  rw [normalClose_eq]
  split
  · exact noted.trans (holdClose _ _)
  · exact noted.trans (rampClose _ _)
  all_goals exact noted

theorem closeCounted (r : CloseReport) (s : State) : Followed s (closeCounted r s) :=
  moves.ite (fun _ => (moves.counters _ s).trans (normalClose r _)) fun _ => moves.counters _ s

end Followed

end Sys2Proof.Machine

/-! # The rupture (R124) -/

namespace Sys2Proof.Machine

section
variable {r : CloseReport} {s t : State} {c : Chan}

theorem ruptureHolds_eq : ruptureHolds = fun m => decide (m.source = .rupture) := rfl

theorem stopUnit_units (ph : Phase) (b : Bool) (c : Chan) (s : State) :
    (stopUnit ph b c s).units = (s.onUnit c darkUnit).units := by
  unfold stopUnit
  split
  · dsimp only [State.onUnit, State.onUnits_units]
    rw [endSequence_units]
    cases b <;> rfl
  all_goals rfl

/-- A stop of every channel leaves each of them dark, with its serial (R34). -/
theorem stopAll_get (ph : Phase) (b : Bool) (s : State) (c : Chan) :
    (stopAll ph b s).units[c] = { serial := s.units[c].serial, ctx := .dark, lane := [] } :=
  foldl_allChans_get (P := fun _ => True) (f := fun s c => stopUnit ph b c s) (g := fun _ => darkUnit)
    (fun c s _ => ⟨trivial, stopUnit_units ph b c s⟩) trivial c

theorem stopAll_reach (ph : Phase) (b : Bool) (s : State) : UnitReach s (stopAll ph b s) :=
  UnitReach.moves.foldl (fun c s => UnitReach.moves.stopUnit ph b c s) _ s

/-- The rupture flag set, the RUPTURE record offered, RUPTURE raised and the marks set (R124, R125). -/
def ruptureTold (r : CloseReport) (s : State) : State :=
  setMarks ruptureHolds (raise .rupture (offerRecord (.rupture (ruptureRecord r s))
    (s.onController fun c => { c with ruptured := true })))

theorem rupture_eq (r : CloseReport) (s : State) :
    rupture r s = stopAll s.controller.phase true (changePhase .burst (ruptureTold r s)) := rfl

theorem ruptureTold_reported (r : CloseReport) (s : State) :
    Reported (s.onController fun c => { c with ruptured := true }) (ruptureTold r s) :=
  (Reported.offerRecord _ _).trans ((Reported.raise _ _).trans (.setMarks _ _))

theorem ruptureTold_followed (r : CloseReport) (s : State) : Followed s (ruptureTold r s) :=
  (Followed.onController _ s rfl rfl).trans ((Followed.offer _ _).trans ((Followed.raise _ _).trans (.setMarks _ _)))

/-- The controller that a rupture leaves, from a part with no ramp outside RAMP and no hold outside HOLD. -/
theorem rupture_controller (r : CloseReport) (s : State) (hhold : s.controller.phase ≠ .hold → s.controller.hold = none)
    (hramp : s.controller.phase ≠ .ramp → s.controller.ramp = none) :
    (rupture r s).controller.phase = .burst ∧ (rupture r s).controller.phaseEvents = 0 ∧
      (rupture r s).controller.ruptured = true ∧ (rupture r s).controller.ramp = none ∧
      (rupture r s).controller.hold = none ∧ (rupture r s).controller.queue = s.controller.queue := by
  have told := ruptureTold_reported r s
  have changed := changePhase_reach .burst (ruptureTold r s)
  have stopped := stopAll_reach s.controller.phase true (changePhase .burst (ruptureTold r s))
  have hphase : (ruptureTold r s).controller.phase = s.controller.phase := told.phase
  have hrampTold : (ruptureTold r s).controller.ramp = s.controller.ramp := told.ramp
  have hholdTold : (ruptureTold r s).controller.hold = s.controller.hold := told.hold
  rw [rupture_eq, stopped.phase, stopped.phaseEvents, stopped.ruptured, stopped.ramp, stopped.hold, stopped.queue,
    changed.phase, changed.phaseEvents, changed.ruptured, changed.ramp, changed.hold, changed.queue]
  refine ⟨rfl, rfl, told.ruptured, ?_, ?_, told.queue⟩
  · show (if _ ∧ _ then _ else _) = none
    rw [hphase, hrampTold]
    by_cases h : s.controller.phase = .ramp
    · rw [if_pos ⟨h, by simp⟩]
    · rw [if_neg fun hc => h hc.1, hramp h]
  · show (if _ then _ else _) = none
    rw [hphase, hholdTold]
    by_cases h : s.controller.phase = .hold
    · rw [if_pos h]
    · rw [if_neg h, hhold h]

theorem rupture_units (r : CloseReport) (s : State) (c : Chan) :
    (rupture r s).units[c] = { serial := s.units[c].serial, ctx := .dark, lane := [] } := by
  have hunits : (changePhase .burst (ruptureTold r s)).units = s.units :=
    (changePhase_reach .burst (ruptureTold r s)).units.trans (ruptureTold_reported r s).units
  rw [rupture_eq, stopAll_get, hunits]

theorem rupture_follows (r : CloseReport) (s : State) : Followed (ruptureTold r s) (rupture r s) :=
  (Followed.changePhase (by simp) _).trans (.stopAll _ _ _)

theorem raise_pends (c : Condition) (s : State) : (raise c s).faults.pendingSet.has c = true := by
  rw [raise, arbitrate_faults]
  exact raiseWith_pends (.offerDepth 3) c s

theorem ruptureTold_pends (r : CloseReport) (s : State) : (ruptureTold r s).faults.pendingSet.has .rupture = true :=
  raise_pends .rupture _

theorem ruptureTold_marks (r : CloseReport) (s : State) :
    (s.active.test.mark0.source = .rupture → (ruptureTold r s).controller.mark0 = true) ∧
    (s.active.test.mark1.source = .rupture → (ruptureTold r s).controller.mark1 = true) := by
  have hactive : (raise .rupture (offerRecord (.rupture (ruptureRecord r s))
      (s.onController fun c => { c with ruptured := true }))).active = s.active := by
    rw [raise_active, offerRecord_active]
    rfl
  rw [ruptureTold, setMarks, hactive, ruptureHolds_eq]
  exact ⟨fun h => Bool.or_eq_true_iff.mpr (.inr (decide_eq_true h)),
    fun h => Bool.or_eq_true_iff.mpr (.inr (decide_eq_true h))⟩

/-- Within a rupture the units are stopped with every end notice free to be held (R71, log entry 7). -/
theorem stopUnit_held (ph : Phase) {h : Hit} (hctx : s.units[c].ctx = .openHit h) : stopUnit ph true c s =
    (offerRecord (.hit (hitRecord c s.units[c].serial h .truncated ph s))
      (onCounters (fun k => { k with hits := countOn k.hits })
        (if Config.noticeHeldBack s.freeDraws then
          holdNotice { chan := c, serial := s.units[c].serial, clip := h.clip, peakDb := peakDbOf c h s }
            (s.withDraws (s.freeDraws + 1))
        else endNotice { chan := c, serial := s.units[c].serial, clip := h.clip, peakDb := peakDbOf c h s }
            (s.withDraws (s.freeDraws + 1))))).onUnit c darkUnit := by
  rw [stopUnit_open_held hctx]
  cases Config.noticeHeldBack s.freeDraws <;> rfl

end

/-- Settles O36: the close is counted, and the rupture is told, changes the phase and stops every channel. -/
theorem ruptureEntersBurst : Obligations.RuptureEntersBurst := by
  refine ⟨fun r s hphase hquorum hrun hmuted hhold hramp => ?_, fun r s hphase hquorum hpositive => ?_,
    fun c h ph s hctx => ?_⟩
  · intro t
    have ht : t = rupture r (closeCounted r s) := closeReport_rupture hphase hquorum
    have noted := Noted.closeCounted r s
    have reach : StageReach s t := StageReach.moves.closeReport r s
    have followed := ((Followed.closeCounted r s).trans (ruptureTold_followed r _)).trans (rupture_follows r _)
    have follows := rupture_follows r (closeCounted r s)
    obtain ⟨hmark0, hmark1⟩ := ruptureTold_marks r (closeCounted r s)
    obtain ⟨hburst, hevents, hruptured, hnoRamp, hnoHold, hqueue⟩ := rupture_controller r (closeCounted r s)
      (fun h => Option.isNone_iff_eq_none.mp (by simp [← Option.not_isSome, noted.hold, hhold (noted.phase ▸ h)]))
      (fun h => Option.isNone_iff_eq_none.mp (by simp [← Option.not_isSome, noted.ramp, hramp (noted.phase ▸ h)]))
    rw [noted.active] at hmark0 hmark1
    rw [← ht] at hburst hevents hruptured hnoRamp hnoHold hqueue followed follows
    refine ⟨hburst, hevents, hruptured, hnoRamp, hnoHold, hqueue.trans noted.queue, fun c => ?_,
      follows.pendingSet .rupture (ruptureTold_pends r _), reach.halted.trans hrun, follows.mark0 ∘ hmark0,
      follows.mark1 ∘ hmark1, reach.tracker, reach.monitor, reach.staged, reach.active, reach.responder, followed.answers,
      followed.records⟩
    rw [ht, rupture_units, noted.units]
  · intro left counted flagged told marked part ended changed
    have hcounted : closeCounted r s = counted := (closeReport_below (r := { r with clipped := 0 }) (.inr hpositive)).symm
    have noted : Noted s counted := hcounted ▸ Noted.closeCounted r s
    have reach : StageReach s counted := StageReach.moves.closeReport _ s
    have hrecord : ruptureRecord r counted =
        { event := r.number, cls := r.cls, clipped := r.clipped, quorum := s.active.test.quorum, phase := left
          settled := s.tracker.settled.getD 0, pressure := s.monitor.pressure, pmax := s.monitor.pmax } := by
      unfold ruptureRecord passTick
      rw [noted.phase, noted.active, noted.tracker, reach.monitor]
    have hraised : raise .rupture (offerRecord (.rupture (ruptureRecord r counted)) flagged) = told := by rw [hrecord]
    have hactive : told.active = s.active := (raise_active ..).trans ((offerRecord_active ..).trans noted.active)
    have htold : ruptureTold r counted = marked := by
      have : ruptureTold r counted =
        setMarks ruptureHolds (raise .rupture (offerRecord (.rupture (ruptureRecord r counted)) flagged)) := rfl
      rw [this, hraised, setMarks, hactive, ruptureHolds_eq]
      rfl
    have hreported : Reported flagged marked := htold ▸ ruptureTold_reported r counted
    have hleft : marked.controller.phase = left := hreported.phase.trans noted.phase
    have howed : onsetOwed marked = onsetOwed counted := hreported.onsetOwed
    have hended : phaseEnded marked = ended := by
      unfold phaseEnded rampEnded
      rw [hleft, howed]
      rfl
    have hpart : heldPart false marked = part := by
      unfold heldPart passTick
      rw [hleft, hreported.hold, hreported.tracker]
      have : flagged.tracker = s.tracker := noted.tracker
      rw [this]
      rfl
    rw [closeReport_rupture hphase hquorum, hcounted, rupture_eq, htold, changePhase_eq (by simp), hended, hpart, hleft,
      noted.phase, hreported.tracker, hreported.monitor, show flagged.tracker = s.tracker from noted.tracker,
      show flagged.monitor = s.monitor from reach.monitor]
    rfl
  · intro drawn notice record ends
    rw [stopUnit_held ph hctx]
    rfl

end Sys2Proof.Machine

/-! # Settle passes with nothing due in the assembler -/

namespace Sys2Proof.Machine

/-! ## The end of a pass (R13, R14) -/

section
variable {s t : State}

theorem runPass_nothingDue (hpass : s.tracker.passInProgress = true) (hdue : nothingDue s) :
    runPass s = endPass (controllerStage s) := by
  rw [runPass, if_pos hpass, assemblerStage_nothingDue hdue]

theorem endPass_halted (h : s.faults.halted = true) : endPass s = s := if_pos h

theorem endPass_running (h : s.faults.halted = false) : endPass s =
    match s.tracker.waiting with
    | none => passOver s
    | some b => trackSettle b (passOver s) := by
  rw [endPass, if_neg (by simp [h])]
  rfl

theorem endPass_over (hrun : s.faults.halted = false) (hwaiting : s.tracker.waiting = none) : endPass s = passOver s := by
  rw [endPass_running hrun, hwaiting]

theorem endPass_waiting {b : Tick} (hrun : s.faults.halted = false) (hwaiting : s.tracker.waiting = some b) :
    endPass s = trackSettle b (passOver s) := by
  rw [endPass_running hrun, hwaiting]

/-! ## HOLD-QUIET (R106) -/

theorem holdQuiet_none (h : s.controller.phase ≠ .hold ∨ s.controller.hold = none) : holdQuiet s = s := by
  unfold holdQuiet
  split
  · next hphase hhold =>
    rcases h with h | h
    · exact absurd hphase h
    · exact absurd (h.symm.trans hhold) (by simp)
  · rfl

theorem holdQuiet_some {h : Hold} (hphase : s.controller.phase = .hold) (hhold : s.controller.hold = some h) :
    holdQuiet s = setMarks (quietHolds (passTick s) h.quietRef) s := by
  rw [holdQuiet, hphase, hhold]

theorem quietHolds_eq (settled ref : Tick) : quietHolds settled ref = fun m =>
    decide (m.source = .holdQuiet ∧ (m.parameter : Int) ≤ (settled : Int) - ref) := by
  funext m
  rw [quietHolds, Bool.decide_and]
  rfl

theorem controllerStage_empty (h : s.controller.queue = []) : controllerStage s = holdQuiet s := by
  rw [controllerStage, examineHead, (Reported.holdQuiet s).queue, h]

end

/-- Settles O37: with an empty queue the controller's stage is HOLD-QUIET. -/
theorem passWithNothingDue : Obligations.PassWithNothingDue := by
  intro s hpass hdue hrun hempty
  have hexec : exec .settlePass s = .next (endPass (holdQuiet s)) := by
    show Host.Outcome.next (runPass s) = _
    rw [runPass_nothingDue hpass hdue, controllerStage_empty hempty]
  have quiet := Reported.holdQuiet s
  have hquietRun : (holdQuiet s).faults.halted = false := quiet.halted.trans hrun
  refine ⟨fun hwaiting hno => ?_, fun h hwaiting hphase hhold => ?_, fun b hwaiting => ?_⟩
  · rw [hexec, holdQuiet_none hno, endPass_over hrun hwaiting]
  · intro holds
    rw [hexec, endPass_over hquietRun ((congrArg Tracker.waiting quiet.tracker).trans hwaiting),
      holdQuiet_some hphase hhold, quietHolds_eq]
    rfl
  · rw [hexec, endPass_waiting hquietRun ((congrArg Tracker.waiting quiet.tracker).trans hwaiting)]

/-! ## The head of the queue (R95, R96, R102) -/

section
variable {s t : State} {q : QueuedOrder} {rest : List QueuedOrder}

/-- The part after HOLD-QUIET with the head of the queue popped. -/
def quietPopped (rest : List QueuedOrder) (s : State) : State :=
  (holdQuiet s).onController fun c => { c with queue := rest, stalled := false }

theorem popHead_eq (hq : s.controller.queue = q :: rest) :
    popHead s = s.onController fun c => { c with queue := rest, stalled := false } := by
  rw [popHead, State.onController, State.onController, hq]
  rfl

theorem popHead_quiet (hq : s.controller.queue = q :: rest) : popHead (holdQuiet s) = quietPopped rest s :=
  popHead_eq ((Reported.holdQuiet s).queue.trans hq)

theorem controllerStage_illegal (hq : s.controller.queue = q :: rest)
    (hl : orderLegal s.controller.phase q.order = false) :
    controllerStage s = answer (orderAnswer q.tag .refusedPhase) (quietPopped rest s) := by
  have r := Reported.holdQuiet s
  simp only [controllerStage, examineHead, r.queue, hq, r.phase, hl, Bool.false_eq_true, if_false, popHead_quiet hq]

theorem quietPopped_fields (rest : List QueuedOrder) (s : State) :
    (quietPopped rest s).faults.halted = s.faults.halted ∧ (quietPopped rest s).tracker = s.tracker :=
  ⟨(Reported.holdQuiet s).halted, (Reported.holdQuiet s).tracker⟩

/-- A pass whose controller's stage leaves the part running, with the tracker as it was. -/
theorem settlePass_stage (h : PassRuns s) (hstage : controllerStage s = t) (hrun : t.faults.halted = s.faults.halted)
    (htracker : t.tracker = s.tracker) : exec .settlePass s = .next (passOver t) :=
  settlePass_nothingDue h hstage (hrun.trans h.running) ((congrArg Tracker.waiting htracker).trans h.waiting)

/-- So for one that ends in an answer. -/
theorem settlePass_answered {a : Answer} (h : PassRuns s) (hstage : controllerStage s = answer a t)
    (hrun : t.faults.halted = s.faults.halted) (htracker : t.tracker = s.tracker) :
    exec .settlePass s = .next (passOver (answer a t)) :=
  settlePass_stage h hstage ((answer_halted a t).trans hrun) ((answer_tracker a t).trans htracker)

end

end Sys2Proof.Machine

/-! # The head of the order queue in a pass, and SWAP -/

namespace Sys2Proof.Machine

/-! ## AWAIT (R102) -/

section
variable {s : State} {q : QueuedOrder} {rest : List QueuedOrder} {m : MarkName}

theorem takeOrder_await (hq : q.order = .await m) (s : State) : takeOrder q s = awaitExamined m q.tag s := by
  rw [takeOrder, hq]

theorem popHead_clearMark (hq : s.controller.queue = q :: rest) :
    popHead (s.onController (clearMark m)) =
      (s.onController fun c => { c with queue := rest, stalled := false }).onController (clearMark m) := by
  have hqueue : (s.onController (clearMark m)).controller.queue = q :: rest := by cases m <;> exact hq
  rw [popHead_eq hqueue]
  cases m <;> rfl

theorem awaitExamined_set {tag : Byte} (hq : s.controller.queue = q :: rest) (hset : markSet m s.controller = true) :
    awaitExamined m tag s = answer (orderAnswer tag .done)
      ((s.onController fun c => { c with queue := rest, stalled := false }).onController (clearMark m)) := by
  rw [awaitExamined, if_pos hset, popHead_clearMark hq]

theorem awaitExamined_clear {tag : Byte} (hclear : markSet m s.controller = false) :
    awaitExamined m tag s = s.onController fun c => { c with stalled := true } :=
  if_neg (by simp [hclear])

end

/-! ## SWAP (R101, R133 to R138) -/

section
variable {name : TableName} {ts : List TableName} {s : State}

/-- A table of a SWAP is handled unless a report has halted the part (R133). -/
def handleTable (name : TableName) (s : State) : State := if s.faults.halted then s else swapTable name s

theorem handleTables_halted (ts : List TableName) (h : s.faults.halted = true) : handleTables ts s = s := by
  cases ts with
  | nil => rfl
  | cons t ts => exact if_pos h

theorem handleTables_cons_eq (name : TableName) (ts : List TableName) (s : State) :
    handleTables (name :: ts) s = handleTables ts (handleTable name s) := by
  by_cases h : s.faults.halted = true
  · rw [handleTable, if_pos h, handleTables_halted _ h, handleTables_halted _ h]
  · rw [handleTable, if_neg h, handleTables, if_neg h]

theorem tablesSwapped_one (name : TableName) (s : State) : tablesSwapped (.one name) s = handleTable name s :=
  handleTables_cons_eq name [] s

theorem tablesSwapped_all (s : State) : tablesSwapped .all s =
    handleTable .test (handleTable .decibel (handleTable .pair (handleTable .channel s))) := by
  show handleTables [_, _, _, _] s = _
  rw [handleTables_cons_eq, handleTables_cons_eq, handleTables_cons_eq, handleTables_cons_eq]
  rfl

theorem swapTable_refused (h : ¬Validates s.staged name) :
    swapTable name s = reportFault .tableInvalid (some (tableSelector name)) s := by
  rw [swapTable_eq, swapReport_of_not_validates h, handled_of_not_validates h]
  rfl

theorem swapTable_copied (h : Validates s.staged name) (hname : name ≠ .channel) :
    swapTable name s = s.onActive (copied s.staged name) := by
  rw [swapTable_silent (swapReport_of_validates h fun hc => absurd hc hname)]
  simp only [handled, swapRefuses_eq_false_iff.mpr h]
  rfl

theorem swapTable_channel (s : State) : swapTable .channel s =
    match firstSkipped s.staged.channels s.active.channels with
    | some d => reportFault .modeSkip (some d.val)
        (s.onActive fun t => { t with channels := copiedChannels s.staged.channels t.channels })
    | none => s.onActive fun t => { t with channels := copiedChannels s.staged.channels t.channels } := rfl

end

/-! ### The directives (R135) -/

section
variable {before : Vector ChannelEntry 32} {name : SwapName} {tag : Byte} {s u : State} {c : Chan}

/-- What a SWAP makes of a channel's unit, by its listening before and after and the phase. -/
def directedUnit (listened listens : Bool) (ph : Phase) (u : ChannelUnit) : ChannelUnit :=
  match listened, listens with
  | true, false => darkUnit u
  | false, true => if listeningPhase ph then readyUnit u else u
  | true, true => u
  | false, false => u

theorem directedUnit_wakes {ph : Phase} (h : listeningPhase ph = true) : directedUnit false true ph = readyUnit :=
  funext fun _ => if_pos h

theorem directedUnit_rests {ph : Phase} (h : listeningPhase ph = false) : directedUnit false true ph = fun u => u :=
  funext fun _ => if_neg (by simp [h])

theorem directedUnit_same (b : Bool) (ph : Phase) (u : ChannelUnit) : directedUnit b b ph u = u := by cases b <;> rfl

/-- Where there is no directive, or the directive to wake finds the phase not listening or the context not DARK. -/
theorem directedUnit_stays {a b : Bool} {ph : Phase} {u : ChannelUnit}
    (h : a = b ∨ (a = false ∧ (listeningPhase ph = false ∨ u.ctx ≠ .dark))) : directedUnit a b ph u = u := by
  rcases h with rfl | ⟨rfl, h⟩
  · exact directedUnit_same a ph u
  · cases b with
    | false => rfl
    | true =>
      cases hph : listeningPhase ph with
      | false => rw [directedUnit_rests hph]
      | true => exact (congrFun (directedUnit_wakes hph) u).trans (if_neg (h.resolve_left (by simp [hph])))

theorem swapDirective_units (before : Vector ChannelEntry 32) (c : Chan) (s : State) : (swapDirective before s c).units =
    (s.onUnit c (directedUnit (modeListens before[c].mode) (modeListens s.active.channels[c].mode)
      s.controller.phase)).units := by
  have stays {u : State} : u.units = (u.onUnit c fun x => x).units := congrArg State.units (State.onUnit_eq_self rfl).symm
  unfold swapDirective
  split
  · next h0 h1 =>
    rw [h0, h1]
    exact stopUnit_units ..
  · next h0 h1 =>
    rw [h0, h1]
    cases hph : listeningPhase s.controller.phase with
    | true =>
      rw [directedUnit_wakes hph]
      rfl
    | false =>
      rw [directedUnit_rests hph]
      exact stays
  all_goals
    next h0 h1 =>
      rw [h0, h1]
      exact stays

theorem swapDirective_stays (h : modeListens before[c].mode = modeListens s.active.channels[c].mode ∨
    (modeListens before[c].mode = false ∧ listeningPhase s.controller.phase = false)) : swapDirective before s c = s := by
  unfold swapDirective
  split
  · next h0 h1 =>
    rw [h0, h1] at h
    rcases h with h | ⟨h, -⟩ <;> cases h
  · next h0 h1 =>
    rw [h0, h1] at h
    rcases h with h | ⟨-, h⟩
    · cases h
    · exact if_neg (by simp [h])
  all_goals rfl

theorem swapDirective_reach (before : Vector ChannelEntry 32) (s : State) (c : Chan) :
    UnitReach s (swapDirective before s c) := by
  have m := UnitReach.moves
  unfold swapDirective
  split
  · exact m.stopUnit ..
  · exact m.ite (fun _ => m.onUnit ..) fun _ => .refl s
  all_goals exact .refl s

theorem swapDirectives_get (before : Vector ChannelEntry 32) (s : State) (c : Chan) : (swapDirectives before s).units[c] =
    directedUnit (modeListens before[c].mode) (modeListens s.active.channels[c].mode) s.controller.phase s.units[c] :=
  foldl_allChans_get (P := fun u => u.active = s.active ∧ u.controller.phase = s.controller.phase)
    (f := swapDirective before)
    (g := fun c => directedUnit (modeListens before[c].mode) (modeListens s.active.channels[c].mode) s.controller.phase)
    (fun c u hu => by
      obtain ⟨hactive, hphase⟩ := hu
      have reach := swapDirective_reach before u c
      refine ⟨⟨reach.active.trans hactive, reach.phase.trans hphase⟩, ?_⟩
      rw [swapDirective_units, hactive, hphase]) ⟨rfl, rfl⟩ c

theorem swapOrder_eq (name : SwapName) (tag : Byte) (s : State) : swapOrder name tag s =
    answer (orderAnswer tag (swapCode (tablesSwapped name s).faults.halted (anyRefused name s.staged)))
      (if (tablesSwapped name s).faults.halted then tablesSwapped name s
       else swapDirectives s.active.channels (tablesSwapped name s)) := rfl

theorem swapOrder_halted (h : (tablesSwapped name s).faults.halted = true) :
    swapOrder name tag s = answer (orderAnswer tag .cancelled) (tablesSwapped name s) := by
  rw [swapOrder_eq, h]
  rfl

theorem swapOrder_running (h : (tablesSwapped name s).faults.halted = false) : swapOrder name tag s =
    answer (orderAnswer tag (if anyRefused name s.staged then .refusedInvalid else .done))
      (swapDirectives s.active.channels (tablesSwapped name s)) := by
  rw [swapOrder_eq, h]
  rfl

/-- Tables that leave the part running have left its units and its phase. -/
theorem tablesSwapped_running (h : (tablesSwapped name s).faults.halted = false) : Swapped s (tablesSwapped name s) := by
  have hrun : s.faults.halted = false := by
    by_contra hs
    rw [tablesSwapped, handleTables_halted _ (by simpa using hs)] at h
    exact hs h
  rcases handleTables_cases (swapTables name) hrun with hs | hhalted
  · exact hs
  · exact absurd (h.symm.trans hhalted.halted) (by simp)

theorem swapOrder_get (h : (tablesSwapped name s).faults.halted = false) (c : Chan) :
    (swapOrder name tag s).units[c] = directedUnit (modeListens s.active.channels[c].mode)
      (modeListens (tablesSwapped name s).active.channels[c].mode) s.controller.phase s.units[c] := by
  have swapped := tablesSwapped_running h
  have hunits : (swapOrder name tag s).units = (swapDirectives s.active.channels (tablesSwapped name s)).units := by
    rw [swapOrder_running h, answer_units]
  rw [hunits, swapDirectives_get, swapped.units, swapped.phase]
  rfl

/-- A SWAP that leaves the part running leaves its tracker. -/
theorem swapOrder_tracker (h : (swapOrder name tag s).faults.halted = false) :
    (swapOrder name tag s).tracker = s.tracker := by
  cases hhalted : (tablesSwapped name s).faults.halted with
  | true =>
    rw [swapOrder_halted hhalted, answer_halted, hhalted] at h
    cases h
  | false =>
    rw [swapOrder_running hhalted, answer_tracker, swapDirectives]
    exact (UnitReach.moves.foldl (fun c u => swapDirective_reach s.active.channels u c) _ _).tracker.trans
      (tablesSwapped_running hhalted).tracker

end

/-- Settles O38: the head is popped, or consumed, or stalled; a SWAP is `tablesSwapped` and then its directives. -/
theorem headExamined : Obligations.HeadExamined := by
  refine ⟨fun q rest s h hq => ?_, fun o => ?_, fun o => ?_, fun o => ?_, fun o => ?_, fun o => ?_, fun o => ?_, fun s => ?_,
    fun name tag s => ?_, fun before c s => ⟨fun h0 h1 => ?_, fun h0 h1 hph => ?_, fun h => ?_⟩⟩
  · intro quiet popped
    have hquietQueue : quiet.controller.queue = q :: rest := (Reported.holdQuiet s).queue.trans hq
    obtain ⟨hrun, htracker⟩ := quietPopped_fields rest s
    refine ⟨fun hl => settlePass_answered h (controllerStage_illegal hq hl) hrun htracker, fun m hm hl => ?_,
      fun name hname hl => ?_⟩
    · have hstage : controllerStage s = awaitExamined m q.tag quiet :=
        (controllerStage_legal hq hl).trans (takeOrder_await hm _)
      refine ⟨fun hset => ?_, fun hclear => ?_⟩
      · exact settlePass_answered h (hstage.trans (awaitExamined_set hquietQueue hset)) hrun htracker
      · exact settlePass_stage h (hstage.trans (awaitExamined_clear hclear)) hrun htracker
    · intro swapped
      have hstage : controllerStage s = swapped := by
        rw [controllerStage_legal hq hl, takeOrder, hname]
        exact congrArg (swapOrder name q.tag) (popHead_quiet hq)
      cases hhalted : swapped.faults.halted with
      | true =>
        show Host.Outcome.next (runPass s) = _
        rw [runPass_nothingDue h.pass h.due, hstage, endPass_halted hhalted]
        rfl
      | false =>
        refine settlePass_nothingDue h hstage hhalted ?_
        have : swapped.tracker = s.tracker := (swapOrder_tracker hhalted).trans htracker
        rw [this, h.waiting]
  · cases o <;> simp [orderLegal]
  · cases o <;> simp [orderLegal]
  · cases o <;> simp [orderLegal]
  · cases o <;> simp [orderLegal]
  · cases o <;> simp [orderLegal]
  · cases o <;> simp [orderLegal]
  · intro rising copied
    refine ⟨fun hnone => ?_, fun d hd => ?_, rfl, fun hvalid => swapTable_copied (name := .decibel) hvalid (by simp),
      fun hno => swapTable_refused (name := .decibel) hno, fun hvalid => swapTable_copied (name := .test) hvalid (by simp),
      fun hno => swapTable_refused (name := .test) (Nat.not_lt.mpr hno)⟩
    · rw [swapTable_channel, hnone]
      rfl
    · rw [swapTable_channel, hd]
      rfl
  · intro names handle handled directed refused reply
    have hhandled : tablesSwapped name s = handled := by
      cases name with
      | one n => exact tablesSwapped_one n s
      | all => exact tablesSwapped_all s
    have hrefused : anyRefused name s.staged = true ↔ refused := by
      rw [anyRefused_eq_true_iff]
      show _ ∨ (_ ∧ ¬_ < _) ↔ _
      rw [Nat.not_lt]
      rfl
    have hdirected : swapDirectives s.active.channels (tablesSwapped name s) = directed := by
      rw [hhandled]
      rfl
    rw [← hhandled]
    refine ⟨swapOrder_halted, fun hrun hr => ?_, fun hrun hr => ?_, fun hrun c => ?_⟩
    · rw [swapOrder_running hrun, if_pos (hrefused.mpr hr), hdirected]
      rfl
    · rw [swapOrder_running hrun, if_neg fun hany => hr (hrefused.mp hany), hdirected]
      rfl
    · intro listened listens unit
      have hunit : unit = directedUnit listened listens s.controller.phase s.units[c] := swapOrder_get hrun c
      rw [hunit]
      refine ⟨fun h0 h1 => ?_, fun h0 h1 hph hdark => ?_, fun h => ?_⟩
      · rw [h0, h1]
        rfl
      · rw [h0, h1]
        exact (if_pos hph).trans (if_pos hdark)
      · exact directedUnit_stays h
  · rw [swapDirective, h0, h1]
  · rw [swapDirective, h0, h1]
    exact if_pos hph
  · exact swapDirective_stays h

end Sys2Proof.Machine

/-! # The orders that a pass takes -/

namespace Sys2Proof.Machine

section
variable {s t : State} {rest : List QueuedOrder} {new : Phase}

theorem popped_onsetOwed (rest : List QueuedOrder) (s : State) : onsetOwed (quietPopped rest s) = onsetOwed s := by
  have quiet := Reported.holdQuiet s
  exact onsetOwed_congr quiet.ramp quiet.active quiet.tracker

theorem popped_phase (rest : List QueuedOrder) (s : State) : (quietPopped rest s).controller.phase = s.controller.phase :=
  (Reported.holdQuiet s).phase

theorem popped_heldPart (b : Bool) (rest : List QueuedOrder) (s : State) :
    heldPart b (quietPopped rest s) = heldPart b s := by
  have quiet := Reported.holdQuiet s
  exact heldPart_congr quiet.phase quiet.hold quiet.tracker

theorem popped_monitor (rest : List QueuedOrder) (s : State) : (quietPopped rest s).monitor = s.monitor :=
  (Reported.holdQuiet s).monitor

theorem popped_tracker (rest : List QueuedOrder) (s : State) : (quietPopped rest s).tracker = s.tracker :=
  (Reported.holdQuiet s).tracker

/-- A change of phase leaves the tracker, the monitor and what a new ramp is made from. -/
theorem changePhase_leaves (new : Phase) (rest : List QueuedOrder) (s : State) :
    (changePhase new (quietPopped rest s)).faults.halted = s.faults.halted ∧
    (changePhase new (quietPopped rest s)).tracker = s.tracker ∧
    (changePhase new (quietPopped rest s)).monitor = s.monitor ∧
    (changePhase new (quietPopped rest s)).controller.lastRamp = s.controller.lastRamp ∧
    (changePhase new (quietPopped rest s)).controller.unloadNoted = s.controller.unloadNoted := by
  have quiet := Reported.holdQuiet s
  have changed := changePhase_reach new (quietPopped rest s)
  exact ⟨changed.halted.trans quiet.halted, changed.tracker.trans quiet.tracker, changed.monitor.trans quiet.monitor,
    changed.lastRamp.trans quiet.lastRamp, changed.unloadNoted.trans quiet.unloadNoted⟩

theorem beginHold_eq (s : State) : beginHold s =
    s.onController fun c => { c with hold := some { entry := passTick s, tally := 0, quietRef := passTick s } } := rfl

theorem beginRamp_eq (s : State) : beginRamp s = s.onController fun c =>
    { c with ramp := some (newRamp s), lastRamp := (newRamp s).number, unloadNoted := false } := rfl

end

/-- Settles O39: the phase left ends and the new one begins, and then the order has its own effect. -/
theorem loadOrdersTaken : Obligations.LoadOrdersTaken := by
  intro tag rest s h quiet popped done part left changed
  have hpopped : quietPopped rest s = popped := rfl
  have hleft : phaseEnded popped = left := by
    unfold phaseEnded rampEnded
    rw [← hpopped, popped_phase, popped_onsetOwed]
    rfl
  have hchanged (new : Phase) (hnew : new ≠ .muted) : changePhase new popped = changed new := by
    rw [changePhase_eq hnew, hleft, ← hpopped, popped_phase, popped_heldPart, popped_tracker, popped_monitor]
    rfl
  have hstage {o : Order} (hq : s.controller.queue = { order := o, tag := tag } :: rest)
      (hl : orderLegal s.controller.phase o = true) : controllerStage s = takeOrder { order := o, tag := tag } quiet :=
    controllerStage_legal hq hl
  have hpop {o : Order} (hq : s.controller.queue = { order := o, tag := tag } :: rest) : popHead quiet = popped :=
    popHead_quiet hq
  refine ⟨fun hq hphase => ?_, fun hq hphase => ?_, fun hq hphase => ?_⟩
  · intro number reload ramp
    obtain ⟨hrun, htracker, hmonitor, hlast, hnoted⟩ := changePhase_leaves .ramp rest s
    have hl : orderLegal s.controller.phase .ramp = true := by rcases hphase with e | e | e <;> rw [e] <;> rfl
    have hramp : newRamp (changePhase .ramp popped) = ramp := by
      unfold newRamp
      rw [← hpopped, hmonitor, hlast, hnoted]
      rfl
    have htake : controllerStage s = answer done (beginRamp (changePhase .ramp popped)) := by
      rw [hstage hq hl, ← hpop hq]
      rfl
    refine (settlePass_answered h htake hrun htracker).trans ?_
    rw [beginRamp_eq, hramp, hchanged .ramp (by simp)]
    rfl
  · obtain ⟨hrun, htracker, -, -, -⟩ := changePhase_leaves .hold rest s
    have hl : orderLegal s.controller.phase .hold = true := by rcases hphase with e | e <;> rw [e] <;> rfl
    have htake : controllerStage s = answer done (beginHold (changePhase .hold popped)) := by
      rw [hstage hq hl, ← hpop hq]
      rfl
    refine (settlePass_answered h htake hrun htracker).trans ?_
    rw [beginHold_eq, passTick, ← hpopped, htracker, hpopped, hchanged .hold (by simp)]
    rfl
  · obtain ⟨hrun, htracker, -, -, -⟩ := changePhase_leaves .unload rest s
    have hl : orderLegal s.controller.phase .unload = true := by rcases hphase with e | e <;> rw [e] <;> rfl
    have htake : controllerStage s = answer done
        ((changePhase .unload popped).onController fun c => { c with unloadNoted := true }) := by
      rw [hstage hq hl, ← hpop hq]
      rfl
    refine (settlePass_answered h htake hrun htracker).trans ?_
    rw [hchanged .unload (by simp)]
    rfl

end Sys2Proof.Machine

/-! # MUTE and UNMUTE (R99, R100) -/

namespace Sys2Proof.Machine

section
variable {s : State} {new : Phase}

theorem holdQuiet_counters (s : State) : (holdQuiet s).controller.counters = s.controller.counters := by
  unfold holdQuiet
  split <;> rfl

/-- The change to MUTED keeps a ramp and ends a hold, interrupted (R99). -/
theorem changePhase_muted (s : State) : changePhase .muted s = offerRecord (.phase
    { old := s.controller.phase, new := .muted, settled := s.tracker.settled, pressure := s.monitor.pressure
      events := s.controller.counters.events, hold := heldPart true s })
    (s.onController fun c =>
      { c with phase := .muted, phaseEvents := 0, hold := if s.controller.phase = .hold then none else c.hold }) := by
  unfold changePhase leavePhase
  cases hphase : s.controller.phase with
  | hold | ramp | idle | armed | unload | muted | burst => rfl

/-- The change from MUTED ends nothing (R100). -/
theorem changePhase_of_muted (h : s.controller.phase = .muted) : changePhase new s = offerRecord (.phase
    { old := .muted, new := new, settled := s.tracker.settled, pressure := s.monitor.pressure
      events := s.controller.counters.events, hold := none })
    (s.onController fun c => { c with phase := new, phaseEvents := 0 }) := by
  unfold changePhase leavePhase leavingHold
  rw [h]
  rfl

/-- A DARK context of a listening channel is made READY (R20). -/
def woken (t : Tables) (c : Chan) (u : ChannelUnit) : ChannelUnit :=
  if modeListens t.channels[c].mode then readyUnit u else u

theorem woken_eq (t : Tables) (c : Chan) (u : ChannelUnit) : woken t c u =
    if modeListens t.channels[c].mode = true ∧ u.ctx = .dark then { u with ctx := .ready } else u := by
  unfold woken readyUnit
  by_cases hl : modeListens t.channels[c].mode = true
  · simp only [hl, true_and, if_true]
  · simp only [hl, false_and, Bool.false_eq_true, if_false]

theorem readyListening_eq (s : State) : readyListening s =
    s.onUnits fun us => mapVec (fun c => woken s.active c us[c]) (Vector.finRange 32) := by
  refine foldl_onUnits_allChans (g := woken) (fun c s => ?_) s
  split
  · next hl => exact State.onUnit_congr (if_pos hl).symm
  · next hl => exact (State.onUnit_eq_self (if_neg hl)).symm

/-- UNMUTE once the phase has changed: the hold that begins, and the contexts woken. -/
theorem unmuteTaken_eq (tag : Byte) {back : Phase} (hback : s.controller.mutedFrom = some back) :
    unmuteTaken tag s = answer (orderAnswer tag .done)
      (((changePhase back s).onController fun c =>
        { c with
          mutedFrom := none
          hold := if back = .hold then
              some { entry := passTick (changePhase back s), tally := 0, quietRef := passTick (changePhase back s) }
            else c.hold }).onUnits fun us =>
          mapVec (fun c => woken (changePhase back s).active c us[c]) (Vector.finRange 32)) := by
  unfold unmuteTaken
  rw [hback]
  dsimp only [Option.getD_some]
  rw [readyListening_eq]
  by_cases h : back = .hold
  · rw [if_pos h]
    simp only [if_pos h]
    rfl
  · rw [if_neg h]
    simp only [if_neg h]
    rfl

end

/-- Settles O40: MUTE is a change of phase and the stop of every channel; UNMUTE a change of phase, a hold that begins and
the waking of the channels. -/
theorem muteAndUnmuteTaken : Obligations.MuteAndUnmuteTaken := by
  refine ⟨fun tag rest s h hq hphase => ?_, fun tag rest back s h hq hphase hback => ?_⟩
  · intro quiet part changed
    have reported := Reported.holdQuiet s
    have hl : orderLegal s.controller.phase .mute = true := by
      cases hp : s.controller.phase <;> simp [hp, listeningPhase] at hphase <;> rfl
    have hunits : changed.units = s.units := (offerRecord_units ..).trans reported.units
    let muted := (quietPopped rest s).onController fun c => { c with mutedFrom := some s.controller.phase }
    have hchanged : changePhase .muted muted = changed := by
      have hmutedPhase : muted.controller.phase = s.controller.phase := reported.phase
      have hmutedHold : muted.controller.hold = s.controller.hold := reported.hold
      have hpart : heldPart true muted = part := heldPart_congr hmutedPhase hmutedHold reported.tracker
      rw [changePhase_muted, hmutedPhase, hpart,
        show muted.tracker = s.tracker from reported.tracker, show muted.monitor = s.monitor from reported.monitor,
        show muted.controller.counters = s.controller.counters from holdQuiet_counters s,
        State.onController, hmutedHold]
      rfl
    have htake : controllerStage s = answer (orderAnswer tag .done) (stopAll s.controller.phase false changed) := by
      have hmute : muteTaken tag (quietPopped rest s) = answer (orderAnswer tag .done)
          (stopAll s.controller.phase false (changePhase .muted muted)) := by
        rw [muteTaken, popped_phase]
      rw [controllerStage_legal hq hl, ← hchanged, ← hmute, ← popHead_quiet hq]
      rfl
    refine ⟨settlePass_answered h htake ?_ ?_, rfl, fun _ c => ?_⟩
    · exact (stopAll_reach _ _ _).halted.trans ((offerRecord_halted ..).trans reported.halted)
    · exact (stopAll_reach _ _ _).tracker.trans ((offerRecord_tracker ..).trans reported.tracker)
    · rw [stopAll_get, hunits]
  · intro changed begun
    have hquiet : holdQuiet s = s := holdQuiet_none (.inl (by rw [hphase]; simp))
    have hl : orderLegal s.controller.phase .unmute = true := by rw [hphase]; rfl
    let popped := s.onController fun c => { c with queue := rest, stalled := false }
    have hchanged : changePhase back popped = changed := changePhase_of_muted (s := popped) hphase
    have hunits : changed.units = s.units := offerRecord_units ..
    have hwoken : (mapVec (fun c => woken s.active c s.units[c]) (Vector.finRange 32)) = begun.units := by
      simp only [woken_eq]
      rfl
    have htake : controllerStage s = answer (orderAnswer tag .done) begun := by
      have hpop : popHead (holdQuiet s) = popped := by rw [hquiet]; exact popHead_eq hq
      have htaken : controllerStage s = unmuteTaken tag popped := by
        rw [controllerStage_legal hq hl, ← hpop]
        rfl
      rw [htaken, unmuteTaken_eq tag (s := popped) hback, hchanged, passTick,
        show changed.tracker = s.tracker from offerRecord_tracker .., show changed.active = s.active from offerRecord_active ..,
        State.onUnits, State.onController_units, hunits, hwoken, State.onController,
        show changed.controller.hold = s.controller.hold from offerRecord_hold ..]
      rfl
    exact settlePass_answered h htake (offerRecord_halted ..) (offerRecord_tracker ..)

end Sys2Proof.Machine

/-! # What the controller's stage of a pass can do -/

namespace Sys2Proof.Machine

/-- `t` is within what the two stages of a pass may do to `s`, the order queue aside. -/
def StageStep (s t : State) : Prop := ∀ R : State → State → Prop, StageMoves R → R s t

/-- The tracker as FINISH leaves it. -/
def finishedTracker (t : Tracker) : Tracker := { Tracker.initial with passInProgress := t.passInProgress, waiting := t.waiting }

/-- The phase as FINISH leaves it. -/
def idled (c : Controller) : Controller := { c with phase := .idle, mutedFrom := none, phaseEvents := 0 }

/-- The ways that the head of the queue is examined, `s` being the part after HOLD-QUIET. -/
inductive HeadTaken (s : State) : State → Prop
  | none : s.controller.queue = [] → HeadTaken s s
  | stalled {q rest} : s.controller.queue = q :: rest → HeadTaken s (s.onController fun c => { c with stalled := true })
  | answered {q rest code u} : s.controller.queue = q :: rest → StageStep (popHead s) u →
      HeadTaken s (answer (orderAnswer q.tag code) u)
  | swapped {q rest name} : s.controller.queue = q :: rest → q.order = .swap name →
      orderLegal s.controller.phase q.order = true → HeadTaken s (swapOrder name q.tag (popHead s))
  | finished {q rest r u} : s.controller.queue = q :: rest → StageStep (popHead s) u →
      HeadTaken s (answer (orderAnswer q.tag .done)
        ((offerRecord r ((cancelOrders u).onController idled)).onTracker finishedTracker))

theorem finishTaken_eq (tag : Byte) (s : State) : ∃ u r, StageStep s u ∧ finishTaken tag s =
    answer (orderAnswer tag .done) ((offerRecord r ((cancelOrders u).onController idled)).onTracker finishedTracker) :=
  ⟨_, _, fun _ m => m.trans (m.stopAll _ _ s) (m.trans (m.flush _) (m.trans (m.endBookkeeping _) (m.offer _ _))), rfl⟩

theorem orderLegal_arm (ph : Phase) : orderLegal ph .arm = false := by cases ph <;> rfl

theorem takeOrder_taken {q : QueuedOrder} {rest : List QueuedOrder} {s : State} (hq : s.controller.queue = q :: rest)
    (hl : orderLegal s.controller.phase q.order = true) : HeadTaken s (takeOrder q s) := by
  unfold takeOrder
  cases ho : q.order with
  | arm => rw [ho, orderLegal_arm] at hl; cases hl
  | ramp => exact .answered hq fun _ m => m.trans (m.changePhase _ _) (m.beginRamp _)
  | hold => exact .answered hq fun _ m => m.trans (m.changePhase _ _) (m.beginHold _)
  | unload => exact .answered hq fun _ m => m.trans (m.changePhase _ _) (m.controller _ _ rfl rfl)
  | mute =>
    exact .answered hq fun _ m => m.trans (m.controller _ _ rfl rfl) (m.trans (m.changePhase _ _) (m.stopAll _ _ _))
  | unmute =>
    exact .answered hq fun _ m => m.trans (m.trans (m.changePhase _ _) (m.controller _ _ rfl rfl)) <|
      m.trans (m.ite (fun _ => m.beginHold _) fun _ => m.refl _) (m.readyListening _)
  | swap name => exact .swapped hq ho hl
  | await k =>
    show HeadTaken s (awaitExamined k q.tag s)
    cases hset : markSet k s.controller with
    | true =>
      rw [awaitExamined_set hq hset, ← popHead_eq hq]
      exact .answered hq fun _ m => m.controller _ _ (by cases k <;> rfl) (by cases k <;> rfl)
    | false =>
      rw [awaitExamined_clear hset]
      exact .stalled hq
  | finish =>
    obtain ⟨u, r, hu, e⟩ := finishTaken_eq q.tag (popHead s)
    rw [show finishTaken q.tag (popHead s) = _ from e]
    exact .finished hq hu

theorem controllerStage_taken (s : State) : HeadTaken (holdQuiet s) (controllerStage s) := by
  unfold controllerStage examineHead
  split
  · next hq => exact .none hq
  · next q rest hq =>
    split
    · next hl => exact takeOrder_taken hq hl
    · exact .answered hq fun _ m => m.refl _

/-- A SWAP in a pass: directives to the tables' channels, or the halt of the part, and an answer. -/
theorem swapOrder_taken (name : SwapName) (tag : Byte) (s : State) (hrun : s.faults.halted = false) :
    (∃ u v code, Swapped s u ∧ StageStep u v ∧ swapOrder name tag s = answer (orderAnswer tag code) v) ∨
    ∃ u, HaltedFrom s u ∧ swapOrder name tag s = answer (orderAnswer tag .cancelled) u := by
  rcases swapOrder_cases name tag hrun with ⟨u, code, hu, e⟩ | h
  · exact .inl ⟨u, _, code, hu, fun _ m => m.swapDirectives _ u, e⟩
  · exact .inr h

/-! ## The placing of the arrivals below S (R61) -/

section
variable {s : State} {t : Tick}

@[simp] theorem placeArrival_arrivals (x : Arrival) (s : State) :
    (placeArrival x s).assembler.arrivals = s.assembler.arrivals := by
  unfold placeArrival
  split
  · rfl
  · split
    · rfl
    · exact congrArg Assembler.arrivals
        ((Reported.countUnassociated s).trans (.raise .eventOverflow (countUnassociated s))).assembler

/-- Entries taken from the front of the list leave the rest of it. -/
theorem takeEntries_arrivals {xs ys : List Arrival} (h : s.assembler.arrivals = xs ++ ys) :
    (takeEntries xs s).assembler.arrivals = ys := by
  induction xs generalizing s with
  | nil => exact h
  | cons x xs ih =>
    refine ih (s := takeEntry x s) ((placeArrival_arrivals x _).trans ?_)
    show s.assembler.arrivals.tail = xs ++ ys
    rw [h]
    rfl

/-- In a list in order the entries below a tick are those at its front. -/
theorem takeWhile_below {l : List Arrival} (h : l.Pairwise arrivalLe) (t : Tick) :
    (l.takeWhile fun x => decide (x.tick < t)) = l.filter (fun x => decide (x.tick < t)) ∧
    l = l.filter (fun x => decide (x.tick < t)) ++ l.filter (fun x => decide (t ≤ x.tick)) := by
  induction l with
  | nil => exact ⟨rfl, rfl⟩
  | cons x l ih =>
    obtain ⟨hx, hl⟩ := List.pairwise_cons.mp h
    obtain ⟨hwhile, happ⟩ := ih hl
    by_cases hlt : x.tick < t
    · simp only [List.takeWhile_cons, List.filter_cons, hlt, Nat.not_le.mpr hlt, decide_true, decide_false, if_true,
        Bool.false_eq_true, if_false, hwhile, List.cons_append, true_and]
      exact congrArg (x :: ·) happ
    · have hnone : ∀ y ∈ l, ¬y.tick < t := fun y hy hyt => by
        rcases hx y hy with h | ⟨h, -⟩
        · exact hlt (Nat.lt_trans h hyt)
        · exact hlt (h ▸ hyt)
      have hbelow : l.filter (fun x => decide (x.tick < t)) = [] :=
        List.filter_eq_nil_iff.mpr fun y hy => by simp [hnone y hy]
      have habove : l.filter (fun x => decide (t ≤ x.tick)) = l :=
        List.filter_eq_self.mpr fun y hy => decide_eq_true (Nat.not_lt.mp (hnone y hy))
      simp only [List.takeWhile_cons, List.filter_cons, hlt, Nat.not_lt.mp hlt, decide_true, decide_false, if_true,
        Bool.false_eq_true, if_false, hbelow, habove, List.nil_append, and_self]

theorem settledEntries_eq (h : ArrivalsSound s) (t : Tick) :
    settledEntries t s = s.assembler.arrivals.filter fun x => decide (x.tick < t) := (takeWhile_below h t).1

/-- The entries that the placing leaves. -/
theorem takeEntries_settled_arrivals (h : ArrivalsSound s) (t : Tick) :
    (takeEntries (settledEntries t s) s).assembler.arrivals =
      s.assembler.arrivals.filter fun x => decide (t ≤ x.tick) := by
  rw [settledEntries_eq h]
  exact takeEntries_arrivals (takeWhile_below h t).2

end

/-! ## No entry below S after a pass (R61) -/

section
variable {s u : State} {t : Tick}

/-- No entry of the list is below `t`. -/
def NoneBelow (t : Tick) (s : State) : Prop := ∀ x ∈ s.assembler.arrivals, t ≤ x.tick

/-- Nor does S let in one below. -/
def KeptAbove (t : Tick) (s : State) : Prop := NoneBelow t s ∧ (t = 0 ∨ ∃ b, s.tracker.settled = some b ∧ t ≤ b)

theorem NoneBelow.congr (h : NoneBelow t s) (e : u.assembler.arrivals = s.assembler.arrivals) : NoneBelow t u := by
  unfold NoneBelow
  rw [e]
  exact h

theorem KeptAbove.congr (h : KeptAbove t s) (ha : u.assembler.arrivals = s.assembler.arrivals)
    (ht : u.tracker.settled = s.tracker.settled) : KeptAbove t u := ⟨h.1.congr ha, by rw [ht]; exact h.2⟩

theorem KeptAbove.reported (r : Reported s u) (h : KeptAbove t s) : KeptAbove t u :=
  h.congr (by rw [r.assembler]) (by rw [r.tracker])

theorem NoneBelow.map {f : Arrival → Arrival} (hf : ∀ x, (f x).tick = x.tick) (h : NoneBelow t s)
    (hu : u.assembler.arrivals = s.assembler.arrivals.map f) : NoneBelow t u := by
  intro x hx
  rw [hu] at hx
  obtain ⟨y, hy, rfl⟩ := List.mem_map.mp hx
  exact (h y hy).trans_eq (hf y).symm

theorem KeptAbove.notice {f : Arrival → Arrival} (c : Chan) (n : Nat)
    (hf : ∀ x, (f x).tick = x.tick ∧ (f x).chan = x.chan) (h : KeptAbove t s) :
    KeptAbove t (s.onAssembler (applyNotice c n f)) := by
  refine ⟨?_, h.2⟩
  by_cases hany : s.assembler.arrivals.any (isPair c n) = true
  · refine h.1.map (f := atPair c n f) (fun x => (atPair_keeps hf x).1) ?_
    rw [State.onAssembler_assembler, applyNotice, if_pos hany]
  · refine h.1.congr ?_
    rw [State.onAssembler_assembler, applyNotice, if_neg hany]

theorem KeptAbove.listed {x : Arrival} (hx : listingOf x.tick s = .listed) (h : KeptAbove t s) :
    KeptAbove t (s.onAssembler fun a => { a with arrivals := insertArrival x a.arrivals }) := by
  refine ⟨fun y hy => ?_, h.2⟩
  obtain ⟨front, back, happ, hinsert, -⟩ := insertArrival_eq x s.assembler.arrivals
  have hy : y ∈ front ++ x :: back := hinsert ▸ hy
  rcases List.mem_append.mp hy with hfront | hback
  · exact h.1 y (happ ▸ List.mem_append_left _ hfront)
  · rcases List.mem_cons.mp hback with rfl | hback
    · rcases h.2 with rfl | ⟨b, hb, htb⟩
      · exact Nat.zero_le _
      · by_contra hlow
        have : listingOf y.tick s = .late := listingOf_of_lt hb (Nat.lt_of_lt_of_le (Nat.not_le.mp hlow) htb)
        rw [this] at hx
        cases hx
    · exact h.1 y (happ ▸ List.mem_append_right _ hback)

theorem keptAbove_unitMoves (t : Tick) : UnitMoves fun s u => KeptAbove t s → KeptAbove t u where
  refl _ := id
  trans h g := g ∘ h
  offer r s := .reported (.offerRecord r s)
  raise c s := .reported (.raise c s)
  counters f s := .reported (.onCounters f s)
  units _ _ h := h.congr rfl rfl
  draws _ _ h := h.congr rfl rfl
  list _ _ hx h := h.listed hx
  notice c n _ _ hf h := h.notice c n hf
  inFlight _ _ h := h.congr rfl rfl

theorem keptAbove_stageMoves (t : Tick) : StageMoves fun s u => KeptAbove t s → KeptAbove t u where
  toReportMoves := (keptAbove_unitMoves t).toReportMoves
  stop := (keptAbove_unitMoves t).stopUnit
  wake _ _ _ h := h.congr rfl rfl
  controller _ _ _ _ h := h.congr rfl rfl
  told := (keptAbove_unitMoves t).notice
  landed _ h := h.congr rfl rfl
  taken _ h := ⟨fun x hx => h.1 x (List.mem_of_mem_tail hx), h.2⟩
  join _ _ _ _ h := h.congr rfl rfl
  opened _ _ _ _ h := h.congr rfl rfl
  free _ _ h := h.congr rfl rfl

end

end Sys2Proof.Machine

/-! # The settle pass (R13, R14, R61, R64, R95) -/

namespace Sys2Proof.Machine

section
variable {s u : State} {t : Tick}

/-- A SWAP of a halted part handles no table. -/
theorem swapOrder_of_halted (name : SwapName) (tag : Byte) (h : s.faults.halted = true) :
    swapOrder name tag s = answer (orderAnswer tag .cancelled) s := by
  have hsame : tablesSwapped name s = s := handleTables_halted _ h
  rw [swapOrder_halted (by rw [hsame]; exact h), hsame]

theorem NoneBelow.of_empty (h : s.assembler.arrivals = []) : NoneBelow t s := by
  intro x hx
  rw [h] at hx
  cases hx

/-- After the controller's stage: no entry is below `t`, and none can join below it before the pass is over. -/
def StageAbove (t : Tick) (s : State) : Prop :=
  NoneBelow t s ∧ (s.faults.halted = true ∨ s.controller.phase = .idle ∨ KeptAbove t s)

theorem KeptAbove.stageAbove (h : KeptAbove t s) : StageAbove t s := ⟨h.1, .inr (.inr h)⟩

theorem StageAbove.reported (r : Reported s u) (h : StageAbove t s) : StageAbove t u :=
  ⟨h.1.congr (by rw [r.assembler]), h.2.imp r.halted.trans (.imp r.phase.trans (.reported r))⟩

theorem KeptAbove.headTaken (h : KeptAbove t s) (g : HeadTaken s u) : StageAbove t u := by
  have hpop : KeptAbove t (popHead s) := h.congr rfl rfl
  cases g with
  | none => exact h.stageAbove
  | stalled => exact KeptAbove.stageAbove (h.congr rfl rfl)
  | answered _ hu => exact (hu _ (keptAbove_stageMoves t) hpop).stageAbove.reported (.answer _ _)
  | @swapped q _ name =>
    by_cases hhalted : (popHead s).faults.halted = true
    · rw [swapOrder_of_halted name q.tag hhalted]
      exact hpop.stageAbove.reported (.answer _ _)
    · rcases swapOrder_taken name q.tag (popHead s) (by simpa using hhalted) with ⟨u, v, code, hu, hv, e⟩ | ⟨u, hu, e⟩
      · rw [e]
        have hu' : KeptAbove t u := hpop.congr (by rw [hu.assembler]; rfl) (by rw [hu.tracker]; rfl)
        exact (hv _ (keptAbove_stageMoves t) hu').stageAbove.reported (.answer _ _)
      · rw [e]
        have : StageAbove t u := by
          refine ⟨?_, .inl hu.halted⟩
          obtain ⟨w, -, rfl⟩ := hu
          exact .of_empty (by rw [enterHalted_assembler])
        exact this.reported (.answer _ _)
  | @finished _ _ r u _ hu =>
    have hu' : KeptAbove t u := hu _ (keptAbove_stageMoves t) hpop
    have harrivals : (offerRecord r ((cancelOrders u).onController idled)).assembler.arrivals = u.assembler.arrivals := by
      rw [offerRecord_assembler, State.onController_assembler, cancelOrders, (Reported.answerEach _ _).assembler]
      rfl
    have hidle : (offerRecord r ((cancelOrders u).onController idled)).controller.phase = .idle := offerRecord_phase ..
    exact StageAbove.reported (.answer _ _) ⟨hu'.1.congr harrivals, .inr (.inl hidle)⟩

/-! ## The waiting frame (R14) -/

theorem KeptAbove.onTracker {f : Tracker → Tracker} (h : KeptAbove t s)
    (hf : ∀ tr, (f tr).settled = tr.settled) : KeptAbove t (s.onTracker f) := h.congr rfl (hf _)

/-- As `StageAbove`, within the lag check. -/
def LagAbove (t : Tick) (s : State) : Prop := NoneBelow t s ∧ (s.faults.halted = true ∨ KeptAbove t s)

theorem KeptAbove.lagAbove (h : KeptAbove t s) : LagAbove t s := ⟨h.1, .inr h⟩

theorem KeptAbove.reportFault (code : FaultCode) (sel : Option Nat) (h : KeptAbove t s) :
    LagAbove t (reportFault code sel s) := by
  rcases reportFault_cases code sel s with hr | ⟨f, -, e⟩
  · exact (h.reported hr).lagAbove
  · rw [e]
    exact ⟨.of_empty (by rw [enterHalted_assembler]), .inl (by rw [enterHalted_faults])⟩

theorem LagAbove.lagCard (b : Tick) (k : Card) (h : LagAbove t s) : LagAbove t (lagCard b s k) := by
  unfold Machine.lagCard
  split
  · exact h
  · next hrun =>
    have habove := h.2.resolve_left hrun
    split
    · have htruncated : KeptAbove t (truncateCard k s) := (keptAbove_unitMoves t).truncateCard k s habove
      have hlagged : KeptAbove t (laggedCard b k s) := htruncated.onTracker fun _ => rfl
      exact hlagged.reportFault _ _
    · exact habove.lagAbove

theorem LagAbove.lagCheck (b : Tick) (h : LagAbove t s) : LagAbove t (lagCheck b s) := by
  have hall (l : List Card) : ∀ s, LagAbove t s → LagAbove t (l.foldl (Machine.lagCard b) s) := by
    induction l with
    | nil => exact fun s h => h
    | cons k l ih => exact fun s h => ih _ (h.lagCard b k)
  exact hall allCards s h

theorem settleAccepted_above (b : Tick) (h : KeptAbove t s) : NoneBelow t (settleAccepted b s) := by
  have hdrained : KeptAbove t (drainAll s) := (keptAbove_unitMoves t).drainAll s h
  have hlast : KeptAbove t ((drainAll s).onTracker fun tr => { tr with last := some b }) := hdrained.onTracker fun _ => rfl
  have htaken : KeptAbove t (settleTaken ((drainAll s).onTracker fun tr => { tr with last := some b })) :=
    hlast.reported (.settleTaken _)
  have hchecked := htaken.lagAbove.lagCheck b
  rw [settleAccepted_eq]
  split
  · exact hchecked.1
  · exact hchecked.1.congr (by rw [beginPass, State.onTracker_assembler])

theorem reportFault_above (code : FaultCode) (sel : Option Nat) (h : NoneBelow t s) :
    NoneBelow t (reportFault code sel s) := by
  rcases reportFault_cases code sel s with hr | ⟨f, -, e⟩
  · exact h.congr (by rw [hr.assembler])
  · rw [e]
    exact .of_empty (by rw [enterHalted_assembler])

theorem trackSettle_above (b : Tick) (h : NoneBelow t s) (hkept : s.controller.phase = .idle ∨ KeptAbove t s) :
    NoneBelow t (trackSettle b s) := by
  unfold trackSettle
  split
  · exact h.congr rfl
  · next hidle =>
    split
    · split
      · exact h.congr rfl
      · exact reportFault_above _ _ h
    · split
      · exact reportFault_above _ _ h
      · exact settleAccepted_above b (hkept.resolve_left hidle)

theorem endPass_above (h : StageAbove t s) : NoneBelow t (endPass s) := by
  cases hrun : s.faults.halted with
  | true => rw [endPass_halted hrun]; exact h.1
  | false =>
    have hkept : s.controller.phase = .idle ∨ KeptAbove t s := h.2.resolve_left (by simp [hrun])
    rw [endPass_running hrun]
    split
    · exact h.1
    · exact trackSettle_above _ h.1 (hkept.imp id fun hk => hk.congr rfl rfl)

end

/-! ## The pass -/

/-- The slots examined and closed one after the other (R64, R65). -/
def slotsClosed (t : Tick) (s : State) : State := (List.finRange 8).foldl (fun u i => examineSlot t u i) s

theorem assemblerStage_eq (s : State) : assemblerStage s =
    deliverNotices (slotsClosed (passTick s) (takeEntries (settledEntries (passTick s) s) s)) := rfl

theorem assemblerStage_above {s : State} (h : ArrivalsSound s) : KeptAbove (passTick s) (assemblerStage s) := by
  have m := keptAbove_stageMoves (passTick s)
  have hplaced : KeptAbove (passTick s) (takeEntries (settledEntries (passTick s) s) s) := by
    refine ⟨fun x hx => ?_, ?_⟩
    · rw [takeEntries_settled_arrivals h] at hx
      exact of_decide_eq_true (List.mem_filter.mp hx).2
    · have htracker : (takeEntries (settledEntries (passTick s) s) s).tracker = s.tracker :=
        (StageReach.moves.takeEntries _ s).tracker
      rw [htracker, passTick]
      cases hs : s.tracker.settled with
      | none => exact .inl rfl
      | some b => exact .inr ⟨b, rfl, le_rfl⟩
  rw [assemblerStage_eq]
  exact m.deliverNotices _ (m.foldl (fun i u => m.examineSlot _ u i) _ _ hplaced)

theorem takeEntries_eq (xs : List Arrival) (s : State) : takeEntries xs s = xs.foldl
    (fun u x => placeArrival x { u with assembler := { u.assembler with arrivals := u.assembler.arrivals.tail } }) s := rfl

theorem slotsClosed_eq (t : Tick) (s : State) : slotsClosed t s = (List.finRange 8).foldl (fun u i =>
    match u.assembler.slots[i] with
    | none => u
    | some e =>
      match closeReasonAt e t with
      | none => u
      | some reason => closeEvent i e reason u) s := rfl

theorem deliverNotices_eq (s : State) : deliverNotices s = s.assembler.inFlight.foldl (fun u n => endNotice n u)
    { s with assembler := { s.assembler with inFlight := [] } } := rfl

theorem runPass_running {s : State} (h : s.tracker.passInProgress = true) :
    runPass s = endPass (controllerStage (assemblerStage s)) := if_pos h

/-- Settles O31: the stages as they are, the entries below S being those at the front of the list; and none that is below S
is let in by any of them. -/
theorem passLeavesNoSettledArrival : Obligations.PassLeavesNoSettledArrival := by
  refine ⟨fun s t hexec hpass hsound => ?_, fun s hpass hsound => ?_⟩
  · have ht : t = endPass (controllerStage (assemblerStage s)) := by
      rw [← runPass_running hpass]
      cases hexec
      rfl
    rw [ht]
    have hquiet : KeptAbove (passTick s) (holdQuiet (assemblerStage s)) :=
      (assemblerStage_above hsound).reported (.holdQuiet _)
    exact endPass_above (hquiet.headTaken (controllerStage_taken _))
  · intro placed closed told staged
    have hplaced : takeEntries (settledEntries (passTick s) s) s = placed := by rw [settledEntries_eq hsound, takeEntries_eq]
    have hclosed : slotsClosed (passTick s) placed = closed := slotsClosed_eq ..
    have htold : deliverNotices closed = told := deliverNotices_eq closed
    have hstaged : controllerStage (assemblerStage s) = staged := by rw [assemblerStage_eq, hplaced, hclosed, htold]
    refine ⟨by rw [← hplaced]; exact takeEntries_settled_arrivals hsound _, ?_⟩
    show Host.Outcome.next (runPass s) = _
    rw [runPass_running hpass, hstaged]
    clear_value staged
    cases hrun : staged.faults.halted with
    | true => rw [endPass_halted hrun]; rfl
    | false => rw [endPass_running hrun]; rfl

end Sys2Proof.Machine

/-! # FINISH (R103, R77) -/

namespace Sys2Proof.Machine

/-! ## The flush (R77) -/

/-- What of the assembler stays empty when notices alone reach it. -/
structure StaysEmpty (s t : State) : Prop where
  arrivals : s.assembler.arrivals = [] → t.assembler.arrivals = []
  slots : ∀ i : Fin 8, s.assembler.slots[i] = none → t.assembler.slots[i] = none

namespace StaysEmpty
variable {s t u : State}

theorem refl (s : State) : StaysEmpty s s := ⟨id, fun _ => id⟩

theorem trans (h : StaysEmpty s t) (g : StaysEmpty t u) : StaysEmpty s u :=
  ⟨g.arrivals ∘ h.arrivals, fun i => g.slots i ∘ h.slots i⟩

theorem of_eq (h : t.assembler = s.assembler) : StaysEmpty s t := ⟨by rw [h]; exact id, fun _ => by rw [h]; exact id⟩

theorem applyNotice (c : Chan) (n : Nat) (f : Arrival → Arrival) (s : State) :
    StaysEmpty s (s.onAssembler (applyNotice c n f)) := by
  by_cases hlisted : ∃ x ∈ s.assembler.arrivals, x.chan = c ∧ x.serial = n
  · refine ⟨fun h => ?_, fun i h => ?_⟩
    · obtain ⟨x, hx, -⟩ := hlisted
      simp [h] at hx
    · rw [State.onAssembler_assembler, applyNotice_listed f hlisted]
      exact h
  · have hno : ∀ x ∈ s.assembler.arrivals, ¬(x.chan = c ∧ x.serial = n) := fun x hx hpair => hlisted ⟨x, hx, hpair⟩
    rw [State.onAssembler, applyNotice_unlisted f hno]
    refine ⟨id, fun i h => (noticedSlots_get f s.assembler.slots i).trans ?_⟩
    rw [h]
    rfl

theorem endMoves : EndMoves StaysEmpty where
  refl := refl
  trans := trans
  offer r s := of_eq (offerRecord_assembler r s)
  raise c s := of_eq (raise_assembler c s)
  counters _ _ := of_eq rfl
  units _ _ := of_eq rfl
  draws _ _ := of_eq rfl
  notice c n f s _ := applyNotice c n f s
  inFlight _ _ := ⟨id, fun _ => id⟩

theorem closeMoves : CloseMoves StaysEmpty where
  toReportMoves := endMoves.toReportMoves
  stop := endMoves.stopUnit
  controller _ _ _ _ := of_eq rfl

theorem freeTheSlot (i : Fin 8) (s : State) : StaysEmpty s (freeTheSlot i s) := by
  refine ⟨id, fun j h => ?_⟩
  show (s.assembler.slots.set i none)[j] = none
  rw [Fin.getElem_fin, Vector.getElem_set]
  split
  · rfl
  · exact h

theorem closeEvent (i : Fin 8) (e : Event) (reason : CloseReason) (s : State) : StaysEmpty s (closeEvent i e reason s) :=
  (endMoves.offer _ s).trans ((closeMoves.closeReport _ _).trans (freeTheSlot i _))

theorem flushSlot (s : State) (i : Fin 8) : StaysEmpty s (flushSlot s i) := by
  unfold Machine.flushSlot
  split
  · exact refl s
  · exact closeEvent i _ _ s

end StaysEmpty

theorem flushSlot_empties (s : State) (i : Fin 8) : (flushSlot s i).assembler.slots[i] = none := by
  unfold flushSlot
  split
  · assumption
  · show ((closeReport _ _).assembler.slots.set i none)[i] = none
    simp

/-- Closing the slots of a list empties them. -/
theorem foldl_flushSlot_empties {l : List (Fin 8)} {i : Fin 8} (hi : i ∈ l) (s : State) :
    (l.foldl flushSlot s).assembler.slots[i] = none := by
  induction l generalizing s with
  | nil => cases hi
  | cons j l ih =>
    rcases List.mem_cons.mp hi with rfl | hi
    · exact (StaysEmpty.closeMoves.foldl (fun i s => .flushSlot s i) l _).slots _ (flushSlot_empties s i)
    · exact ih hi _

theorem flush_empties (s : State) :
    (flush s).assembler.arrivals = [] ∧ ∀ i : Fin 8, (flush s).assembler.slots[i] = none := by
  have hplaced : (takeEntries s.assembler.arrivals s).assembler.arrivals = [] :=
    takeEntries_arrivals (List.append_nil _).symm
  have closed (u : State) : StaysEmpty u (allSlots.foldl flushSlot u) :=
    StaysEmpty.closeMoves.foldl (fun i s => .flushSlot s i) allSlots u
  rw [flush]
  exact ⟨(closed _).arrivals hplaced, fun i => foldl_flushSlot_empties (mem_allSlots i) _⟩

/-- A flush of an assembler with nothing in it. -/
theorem flush_empty {s : State} (ha : s.assembler.arrivals = []) (hs : ∀ i : Fin 8, s.assembler.slots[i] = none) :
    flush s = s := by
  unfold flush
  rw [ha]
  exact foldl_fixed flushSlot s _ fun i _ => by rw [flushSlot, hs i]

/-! ## What follows the flush -/

section
variable {s f : State} {rest : List QueuedOrder}

/-- The ramp and the hold ended, the SUMMARY record offered (R104, R108). -/
def summed (before : Phase) (f : State) : State :=
  offerRecord (.summary (summaryRecord before (endBookkeeping f))) (endBookkeeping f)

theorem endBookkeeping_eq (f : State) : endBookkeeping f =
    (offerSome ((onsetOwed f).map .onset) f).onController fun c => { c with ramp := none, hold := none } := by
  rw [endBookkeeping, endRamp_eq]
  rfl

theorem summed_reach (before : Phase) (f : State) : StageReach f (summed before f) :=
  (StageReach.moves.endBookkeeping f).trans (.of_reported (.offerRecord _ _))

theorem endBookkeeping_fields (f : State) : (endBookkeeping f).controller.phase = f.controller.phase ∧
    (endBookkeeping f).controller.ruptured = f.controller.ruptured := by
  have offered := Reported.offerSome ((onsetOwed f).map .onset) f
  rw [endBookkeeping_eq]
  exact ⟨offered.phase, offered.ruptured⟩

/-- The orders behind FINISH answered CANCELLED. -/
def cancelledBehind (rest : List QueuedOrder) (s : State) : State :=
  answerEach (rest.map fun q => { tag := q.tag, kind := .order, code := .cancelled, data := .none })
    (s.onController fun c => { c with queue := [], stalled := false })

theorem cancelOrders_eq (h : s.controller.queue = rest) : cancelOrders s = cancelledBehind rest s := by
  subst h
  rfl

theorem cancelledBehind_reported (rest : List QueuedOrder) (s : State) :
    Reported (s.onController fun c => { c with queue := [], stalled := false }) (cancelledBehind rest s) :=
  .answerEach _ _

/-- The part that FINISH leaves, from the flushed one (R103). -/
def finishedFrom (before : Phase) (rest : List QueuedOrder) (f : State) : State :=
  let cancelled := cancelledBehind rest (summed before f)
  (offerRecord (.phase
    { old := f.controller.phase, new := .idle, settled := f.tracker.settled, pressure := f.monitor.pressure
      events := cancelled.controller.counters.events, hold := heldPart false f }) (cancelled.onController idled)).onTracker
    finishedTracker

theorem finishTaken_flushed {tag : Byte} (hf : flush (stopAll s.controller.phase false s) = f)
    (hq : f.controller.queue = rest) :
    finishTaken tag s = answer (orderAnswer tag .done) (finishedFrom s.controller.phase rest f) := by
  have reach := summed_reach s.controller.phase f
  have cancelled := cancelledBehind_reported rest (summed s.controller.phase f)
  have hcancel : cancelOrders (summed s.controller.phase f) = cancelledBehind rest (summed s.controller.phase f) :=
    cancelOrders_eq (reach.queue.trans hq)
  have hphase : (summed s.controller.phase f).controller.phase = f.controller.phase :=
    (offerRecord_phase ..).trans (endBookkeeping_fields f).1
  have hsummed : offerRecord (.summary (summaryRecord s.controller.phase (endBookkeeping f))) (endBookkeeping f) =
    summed s.controller.phase f := rfl
  unfold finishTaken
  dsimp only
  rw [hf, leavingHold_eq (by simp), hsummed, hcancel, phaseRecord, State.onController_tracker, State.onController_monitor,
    cancelled.tracker, cancelled.monitor, cancelled.phase, State.onController_tracker, State.onController_monitor,
    State.onController_controller, reach.tracker, reach.monitor, hphase]
  rfl

theorem finishedFrom_tracker (before : Phase) (rest : List QueuedOrder) (f : State) :
    (finishedFrom before rest f).tracker = finishedTracker f.tracker := by
  have reach := summed_reach before f
  have cancelled := cancelledBehind_reported rest (summed before f)
  show finishedTracker (offerRecord _ _).tracker = _
  rw [offerRecord_tracker, State.onController_tracker, cancelled.tracker, State.onController_tracker, reach.tracker]

theorem finishedFrom_halted (before : Phase) (rest : List QueuedOrder) (f : State) :
    (finishedFrom before rest f).faults.halted = f.faults.halted := by
  have reach := summed_reach before f
  have cancelled := cancelledBehind_reported rest (summed before f)
  exact (offerRecord_halted ..).trans (cancelled.halted.trans reach.halted)

end

end Sys2Proof.Machine

namespace Sys2Proof.Machine

theorem flush_eq (s : State) : flush s = (List.finRange 8).foldl (fun u i =>
    match u.assembler.slots[i] with
    | none => u
    | some e => closeEvent i e .flush u)
    (s.assembler.arrivals.foldl
      (fun u x => placeArrival x { u with assembler := { u.assembler with arrivals := u.assembler.arrivals.tail } }) s) := rfl

theorem passOver_answer (a : Answer) (s : State) : passOver (answer a s) = answer a (passOver s) :=
  (arbitrate_onTracker (fun t => { t with passInProgress := false, waiting := none }) _).symm

/-- The stop of channels of which none has a hit open. -/
theorem stopAll_no_open {ph : Phase} {b : Bool} {s : State} (h : noOpenHit s) : stopAll ph b s =
    s.onUnits fun us => mapVec (fun c => darkUnit us[c]) (Vector.finRange 32) := by
  have hfold (l : List Chan) : ∀ s, noOpenHit s →
      l.foldl (fun s c => stopUnit ph b c s) s = l.foldl (fun s c => s.onUnit c darkUnit) s := by
    induction l with
    | nil => exact fun s _ => rfl
    | cons c l ih =>
      intro s hs
      rw [List.foldl_cons, List.foldl_cons, stopUnit_not_open (hs c)]
      refine ih _ fun d hit => ?_
      rw [State.onUnit_get]
      split
      · exact Context.noConfusion
      · exact hs d hit
  exact (hfold allChans s h).trans (foldl_onUnit_allChans (fun _ => darkUnit) s)

section
variable {s f : State} {rest : List QueuedOrder} {tag : Byte}

/-- FINISH in a pass is its own end: the tracker is cleared. -/
theorem exec_finish (h : PassRuns s) (hq : s.controller.queue = { order := .finish, tag := tag } :: rest)
    (hphase : s.controller.phase ≠ .idle) (hf : flush (stopAll s.controller.phase false (quietPopped rest s)) = f) :
    exec .settlePass s = .next (answer { tag := tag, kind := .order, code := .done, data := .none }
      ((finishedFrom s.controller.phase rest f).onTracker fun _ => .initial)) := by
  have hl : orderLegal s.controller.phase .finish = true := by
    cases hp : s.controller.phase with
    | idle => exact absurd hp hphase
    | armed | ramp | hold | unload | muted | burst => rfl
  have reach : StageReach (quietPopped rest s) f :=
    hf ▸ (StageReach.moves.stopAll _ _ _).trans (StageReach.moves.flush _)
  have htracker : (finishedFrom s.controller.phase rest f).tracker = finishedTracker s.tracker := by
    rw [finishedFrom_tracker, reach.tracker, popped_tracker]
  have hrun : (finishedFrom s.controller.phase rest f).faults.halted = false := by
    rw [finishedFrom_halted, reach.halted, (quietPopped_fields rest s).1]
    exact h.running
  have hstage : controllerStage s = answer (orderAnswer tag .done) (finishedFrom s.controller.phase rest f) := by
    rw [controllerStage_legal hq hl]
    show finishTaken tag (popHead (holdQuiet s)) = _
    rw [popHead_quiet hq, finishTaken_flushed (f := f) (rest := rest) (by rw [popped_phase]; exact hf) reach.queue,
      popped_phase]
  refine (settlePass_nothingDue h hstage (by rw [answer_halted]; exact hrun) ?_).trans ?_
  · rw [answer_tracker, htracker]
    exact h.waiting
  · have hover : passOver (finishedFrom s.controller.phase rest f) =
        (finishedFrom s.controller.phase rest f).onTracker fun _ => .initial := by
      rw [passOver, htracker]
      rfl
    rw [passOver_answer, hover]
    rfl

/-- The part that FINISH leaves, by what of the flushed part it goes by. -/
theorem finishedFrom_eq {before ph : Phase} {hold : Option Hold} {owed : Option OnsetRecord} {ruptured : Bool}
    (htracker : f.tracker = s.tracker) (hmonitor : f.monitor = s.monitor) (hphase : f.controller.phase = ph)
    (hhold : f.controller.hold = hold) (howed : onsetOwed f = owed) (hruptured : f.controller.ruptured = ruptured) :
    let part : Option HoldPart :=
      if ph = .hold then
        hold.map fun h => { tally := h.tally, span := passTick s - h.entry, interrupted := false }
      else none
    let offered := offerSome (owed.map .onset) f
    let ended : State := { offered with controller := { offered.controller with ramp := none, hold := none } }
    let summed := offerRecord (.summary
      { counters := ended.controller.counters, pmax := s.monitor.pmax, rupture := ruptured, before := before }) ended
    let cancelled := answerEach
      (rest.map fun q => { tag := q.tag, kind := .order, code := .cancelled, data := .none })
      { summed with controller := { summed.controller with queue := [], stalled := false } }
    let idle := offerRecord (.phase
      { old := ph, new := .idle, settled := s.tracker.settled, pressure := s.monitor.pressure,
        events := cancelled.controller.counters.events, hold := part })
      { cancelled with controller :=
        { cancelled.controller with phase := .idle, mutedFrom := none, phaseEvents := 0 } }
    (finishedFrom before rest f).onTracker (fun _ => .initial) = idle.onTracker fun _ => .initial := by
  intro part offered ended summed' cancelled idle
  have hended : endBookkeeping f = ended := by rw [endBookkeeping_eq, howed]; rfl
  have hpart : heldPart false f = part := by
    unfold heldPart passTick
    rw [hphase, hhold, htracker]
    rfl
  have hsummed : summed before f = summed' := by
    unfold summed summaryRecord
    have hmonitor' : (endBookkeeping f).monitor = s.monitor := (StageReach.moves.endBookkeeping f).monitor.trans hmonitor
    rw [hmonitor', (endBookkeeping_fields f).2, hruptured, hended]
  unfold finishedFrom
  dsimp only
  rw [hsummed, hphase, hpart, htracker, hmonitor]
  rfl

end

end Sys2Proof.Machine

namespace Sys2Proof
open Machine

/-- Settles O41: FINISH goes by the flushed part; with no hit open and nothing in the assembler the flush does nothing. -/
theorem finishTaken : Obligations.FinishTaken := by
  refine ⟨fun tag rest s h hq hphase hno hempty => ?_, fun tag rest s h hq hphase => ?_⟩
  · intro quiet stopped part owed ended summed cancelled idle
    obtain ⟨harrivals, hslots, -⟩ := hempty
    have reported := Reported.holdQuiet s
    have hstopped : stopAll s.controller.phase false (quietPopped rest s) = stopped := by
      have hunits : (quietPopped rest s).units = s.units := reported.units
      rw [stopAll_no_open fun c hit => by rw [hunits]; exact hno c hit, State.onUnits, hunits]
      rfl
    have hassembler : stopped.assembler = s.assembler := reported.assembler
    have hflushed : flush (stopAll s.controller.phase false (quietPopped rest s)) = stopped := by
      rw [hstopped, flush_empty (by rw [hassembler]; exact harrivals) (by rw [hassembler]; exact hslots)]
    rw [exec_finish h hq hphase hflushed, finishedFrom_eq (s := s) (f := stopped) reported.tracker reported.monitor
      reported.phase reported.hold (popped_onsetOwed rest s) reported.ruptured]
    rfl
  · intro quiet popped stopped placed flushed part owed ended summed cancelled idle
    have hflushed : flush (stopAll s.controller.phase false (quietPopped rest s)) = flushed := flush_eq stopped
    obtain ⟨harrivals, hslots⟩ := flush_empties stopped
    have hflush : flush stopped = flushed := hflushed
    rw [hflush] at harrivals hslots
    have reach : StageReach (quietPopped rest s) flushed :=
      hflushed ▸ (StageReach.moves.stopAll _ _ _).trans (StageReach.moves.flush _)
    refine ⟨harrivals, hslots, ?_⟩
    clear_value flushed
    rw [exec_finish h hq hphase hflushed, finishedFrom_eq (s := s) (f := flushed) (reach.tracker.trans (popped_tracker rest s))
      (reach.monitor.trans (popped_monitor rest s)) rfl rfl rfl rfl]
    rfl

end Sys2Proof

/-! # What management frames and the stages of a pass make of the part -/

namespace Sys2Proof.Machine

/-! ## Management frames -/

section
variable {s t : State} {x : MgmtFrame}

/-- `t` is `s` but for the staged copies, the marks and the flags of conditions. -/
structure Plain (s t : State) : Prop where
  tracker : t.tracker = s.tracker
  units : t.units = s.units
  assembler : t.assembler = s.assembler
  controller : ∃ m0 m1, t.controller = { s.controller with mark0 := m0, mark1 := m1 }
  monitor : t.monitor = s.monitor
  active : t.active = s.active
  outlet : t.outlet = s.outlet
  responder : t.responder = s.responder
  halted : t.faults.halted = s.faults.halted

theorem Plain.refl (s : State) : Plain s s := ⟨rfl, rfl, rfl, ⟨_, _, rfl⟩, rfl, rfl, rfl, rfl, rfl⟩

/-- The ways that an accepted frame is carried out. -/
inductive CarriedOut (x : MgmtFrame) (s : State) : State → Prop
  | plain {a u} : Plain s u → (u.staged = s.staged ∨ x.kind = .writeTable ∧ ∃ n es, writeOf x.body = some (n, es) ∧
      u.staged = writeEntries n es s.staged) → CarriedOut x s (answer a u)
  | dropped {a} : CarriedOut x s (answer a (cancelOrders s))
  | ordered {o} : CarriedOut x s (orderArrives o x.tag s)
  | reset : x.kind = .resetLink → CarriedOut x s (linkReset x.tag s)

theorem carryOut_carried (x : MgmtFrame) (s : State) : CarriedOut x s (carryOut x s) := by
  have stands (a : Answer) : CarriedOut x s (answer a s) := .plain (.refl s) (.inl rfl)
  unfold carryOut
  cases hk : x.kind with
  | identify => exact stands _
  | writeTable =>
    show CarriedOut x s (carryWriteTable x s)
    unfold carryWriteTable
    split
    · next n es hw =>
      exact .plain ⟨rfl, rfl, rfl, ⟨_, _, rfl⟩, rfl, rfl, rfl, rfl, rfl⟩ (.inr ⟨hk, n, es, hw, rfl⟩)
    · exact stands _
  | readTable =>
    show CarriedOut x s (carryReadTable x s)
    unfold carryReadTable
    split <;> exact stands _
  | order =>
    show CarriedOut x s (carryOrder x s)
    unfold carryOrder
    split
    · exact .ordered
    · exact stands _
  | readState => exact .plain ⟨rfl, rfl, rfl, ⟨_, _, rfl⟩, rfl, rfl, rfl, rfl, rfl⟩ (.inl rfl)
  | setMark =>
    show CarriedOut x s (carrySetMark x s)
    unfold carrySetMark
    split
    · next m _ => cases m <;> exact .plain ⟨rfl, rfl, rfl, ⟨_, _, rfl⟩, rfl, rfl, rfl, rfl, rfl⟩ (.inl rfl)
    · exact stands _
  | dropOrders => exact .dropped
  | clearConditions =>
    show CarriedOut x s (carryClearConditions x s)
    unfold carryClearConditions
    dsimp only
    split
    · exact .plain ⟨rfl, rfl, rfl, ⟨_, _, rfl⟩, rfl, rfl, rfl, rfl, rfl⟩ (.inl rfl)
    · exact stands _
  | resetLink => exact .reset hk

/-- What the responder's own bookkeeping and every frame carried out keep, the service of the waiting frames keeps. -/
theorem serve_keeps {P : State → Prop} (hresponder : ∀ f s, P s → P (s.onResponder f))
    (hcarry : ∀ x s, P s → P (carryOut x s)) (n : Nat) (h : P s) : P (serve n s) := by
  induction n generalizing s with
  | zero => exact h
  | succ n ih =>
    unfold serve
    split
    · exact h
    · exact ih (hresponder _ _ (hcarry _ _ (hresponder _ _ h)))

theorem acceptMgmt_keeps {P : State → Prop} (hraise : ∀ s, P s → P (raise .mgmtOverrun s))
    (hreserve : ∀ s, P s → P (s.onOutlet fun o => { o with reservations := o.reservations + 1 }))
    (hresponder : ∀ f s, P s → P (s.onResponder f)) (hcarry : ∀ x s, P s → P (carryOut x s)) (x : MgmtFrame) (h : P s) :
    P (acceptMgmt x s) := by
  unfold acceptMgmt
  split
  · exact hraise s h
  · exact serve_keeps hresponder hcarry _ (hresponder _ _ (hreserve s h))

/-- The part with the frame accepted and in hand. -/
def accepted (x : MgmtFrame) (s : State) : State :=
  (s.onOutlet fun o => { o with reservations := o.reservations + 1 }).onResponder fun _ => { inHand := some x, waiting := [] }

/-- With no frame waiting, an accepted frame is carried out at once (R154). -/
theorem acceptMgmt_idle (h : s.responder.waiting = []) (x : MgmtFrame) : acceptMgmt x s =
    if answersFull s.outlet then raise .mgmtOverrun s else release (carryOut x (accepted x s)) := by
  unfold acceptMgmt
  rw [h]
  split
  · rfl
  · simp only [List.length_nil, serve, State.onResponder_responder, State.onOutlet_responder, h, List.nil_append]
    rfl

theorem takeProcess_reported (x : ProcessFrame) (s : State) : ∃ f, Reported (s.onMonitor f) (takeProcess x s) := by
  unfold takeProcess
  split
  · exact ⟨_, .setMarks _ _⟩
  · exact ⟨_, .raise _ _⟩

end

/-! ## The tracker across the controller's stage -/

section
variable {s u : State}

theorem cancelOrders_reported (s : State) :
    Reported (s.onController fun c => { c with queue := [], stalled := false }) (cancelOrders s) := .answerEach _ _

/-- The controller's stage leaves the tracker, or it halts the part, or it ends the test. -/
theorem HeadTaken.tracker (h : HeadTaken s u) : u.tracker = s.tracker ∨
    (u.tracker = .initial ∧ u.faults.halted = true) ∨
    u.tracker = finishedTracker s.tracker ∧ u.controller.phase = .idle := by
  cases h with
  | none => exact .inl rfl
  | stalled => exact .inl rfl
  | answered _ hu => exact .inl ((answer_tracker ..).trans (hu _ StageReach.moves).tracker)
  | @swapped q _ name =>
    by_cases hhalted : (popHead s).faults.halted = true
    · rw [swapOrder_of_halted name q.tag hhalted]
      exact .inl (answer_tracker ..)
    · rcases swapOrder_taken name q.tag (popHead s) (by simpa using hhalted) with ⟨u, v, code, hu, hv, e⟩ | ⟨u, hu, e⟩
      · rw [e]
        exact .inl ((answer_tracker ..).trans ((hv _ StageReach.moves).tracker.trans hu.tracker))
      · rw [e, answer_tracker, answer_halted]
        refine .inr (.inl ⟨?_, hu.halted⟩)
        obtain ⟨w, -, rfl⟩ := hu
        exact enterHalted_tracker w
  | @finished _ _ r u _ hu =>
    refine .inr (.inr ⟨?_, (answer_phase ..).trans (offerRecord_phase ..)⟩)
    rw [answer_tracker, State.onTracker_tracker, offerRecord_tracker, State.onController_tracker,
      (cancelOrders_reported u).tracker, State.onController_tracker, (hu _ StageReach.moves).tracker]
    rfl

end

/-! ## The settled tick (R12) -/

/-- S is as it was, or there is none. -/
def SettledHeld (s t : State) : Prop := t.tracker.settled = s.tracker.settled ∨ t.tracker.settled = none

/-- S, where there is one before and after, is not lower. -/
def NotLowered (s t : State) : Prop := ∀ a b, s.tracker.settled = some a → t.tracker.settled = some b → a ≤ b

namespace SettledHeld
variable {s t u : State}

theorem of_reported (h : Reported s t) : SettledHeld s t := .inl (by rw [h.tracker])

theorem trans (h : SettledHeld s t) (g : SettledHeld t u) : SettledHeld s u := by
  rcases g with e | e
  · rw [SettledHeld, e]
    exact h
  · exact .inr e

theorem reportFault (code : FaultCode) (sel : Option Nat) (s : State) : SettledHeld s (reportFault code sel s) := by
  rcases reportFault_cases code sel s with hr | ⟨f, -, e⟩
  · exact of_reported hr
  · rw [e, SettledHeld, enterHalted_tracker]
    exact .inr rfl

theorem moves : FrameMoves SettledHeld where
  refl _ := .inl rfl
  trans := trans
  offer r s := of_reported (.offerRecord r s)
  raise c s := of_reported (.raise c s)
  counters _ _ := .inl rfl
  units _ _ := .inl rfl
  draws _ _ := .inl rfl
  list _ _ _ := .inl rfl
  notice _ _ _ _ _ := .inl rfl
  inFlight _ _ := .inl rfl
  controller _ _ := .inl rfl
  tracker _ s h := .inl (h s.tracker)
  forgotten _ s h := .inr (h s.tracker)
  monitor _ _ := .inl rfl
  active _ _ := .inl rfl
  responder _ _ := .inl rfl
  taken _ := .inl rfl
  join _ _ _ _ := .inl rfl
  opened _ _ _ _ := .inl rfl
  free _ _ := .inl rfl
  cleared _ := .inl rfl
  answer a s := of_reported (.answer a s)
  reserve _ := .inl rfl
  pass p s := of_reported (.offerPass p s)
  settled s := of_reported (.settleTaken s)
  fault := reportFault
  seen _ := .inl rfl
  unseen _ _ := .inl rfl

theorem linkReset (tag : Byte) (s : State) : SettledHeld s (linkReset tag s) :=
  .inr (congrArg Tracker.settled (arbitrate_tracker _))

theorem carryOut (x : MgmtFrame) (s : State) : SettledHeld s (carryOut x s) := by
  refine moves.carryOut (fun _ => ?_) fun _ => linkReset x.tag s
  unfold carryWriteTable
  split
  · exact .inl (congrArg Tracker.settled (answer_tracker ..))
  · exact of_reported (.answer _ s)

theorem notLowered (h : SettledHeld s t) : NotLowered s t := by
  intro a b ha hb
  rcases h with e | e
  · rw [e, ha] at hb
    cases hb
    exact le_rfl
  · rw [e] at hb
    cases hb

end SettledHeld

/-- S is as it was, unless the part has been halted. -/
def SettledRunning (s t : State) : Prop :=
  (s.faults.halted = true → t.faults.halted = true) ∧ (t.tracker.settled = s.tracker.settled ∨ t.faults.halted = true)

namespace SettledRunning
variable {s t u : State}

theorem of_reported (h : Reported s t) : SettledRunning s t := ⟨h.halted.trans, .inl (by rw [h.tracker])⟩

theorem reportFault (code : FaultCode) (sel : Option Nat) (s : State) : SettledRunning s (reportFault code sel s) := by
  refine ⟨HaltedKept.reportFault code sel s, ?_⟩
  rcases reportFault_cases code sel s with hr | ⟨f, -, e⟩
  · exact .inl (by rw [hr.tracker])
  · rw [e, enterHalted_faults]
    exact .inr rfl

theorem moves : TickMoves SettledRunning where
  refl _ := ⟨id, .inl rfl⟩
  trans h g := ⟨g.1 ∘ h.1, g.2.elim (fun e => h.2.imp e.trans g.1) .inr⟩
  offer r s := of_reported (.offerRecord r s)
  raise c s := of_reported (.raise c s)
  counters _ _ := ⟨id, .inl rfl⟩
  units _ _ := ⟨id, .inl rfl⟩
  draws _ _ := ⟨id, .inl rfl⟩
  list _ _ _ := ⟨id, .inl rfl⟩
  notice _ _ _ _ _ := ⟨id, .inl rfl⟩
  inFlight _ _ := ⟨id, .inl rfl⟩
  tracker _ s h := ⟨id, .inl (h s.tracker)⟩
  pass p s := of_reported (.offerPass p s)
  settled s := of_reported (.settleTaken s)
  fault := reportFault

end SettledRunning

end Sys2Proof.Machine

/-! # The settled tick and the phase BURST -/

namespace Sys2Proof.Machine

section
variable {s t u : State}

theorem NotLowered.of_settled_eq (hs : s.tracker.settled = u.tracker.settled) (h : NotLowered u t) : NotLowered s t :=
  fun a b ha hb => h a b (hs.symm.trans ha) hb

/-- The part that the lag check of an accepted SETTLE frame leaves (R12). -/
def lagChecked (b : Tick) (s : State) : State :=
  lagCheck b (settleTaken ((drainAll s).onTracker fun t => { t with last := some b }))

theorem settleAccepted_eq_lagChecked (b : Tick) (s : State) : settleAccepted b s =
    if (lagChecked b s).faults.halted then lagChecked b s else beginPass b (lagChecked b s) := by
  unfold lagChecked
  exact settleAccepted_eq b s

theorem lagChecked_settled (b : Tick) (s : State) : SettledRunning s (lagChecked b s) := by
  have m := SettledRunning.moves
  exact m.trans (m.drainAll s) (m.trans (m.tracker _ _ (by intro _; rfl)) (m.trans (m.settled _) (m.lagCheck b _)))

theorem lagChecked_held (b : Tick) (s : State) : SettledHeld s (lagChecked b s) := by
  have m := SettledHeld.moves
  exact m.trans (m.drainAll s) (m.trans (m.tracker _ _ (by intro _; rfl)) (m.trans (m.settled _) (m.lagCheck b _)))

theorem beginPass_notLowered (b : Tick) (s : State) : NotLowered s (beginPass b s) := by
  intro x y hx hy
  have hy : some (nextSettled s.tracker.settled b (dmaxOf s.active.channels)) = some y := hy
  cases hy
  rw [nextSettled_eq, hx]
  exact Nat.le_max_left x _

theorem settleAccepted_notLowered (b : Tick) (s : State) : NotLowered s (settleAccepted b s) := by
  rw [settleAccepted_eq_lagChecked]
  split
  · exact (lagChecked_held b s).notLowered
  · next hrun =>
    have hsettled := (lagChecked_settled b s).2.resolve_right hrun
    exact .of_settled_eq hsettled.symm (beginPass_notLowered b _)

theorem trackSettle_notLowered (b : Tick) (s : State) : NotLowered s (trackSettle b s) := by
  unfold trackSettle
  split
  · exact (SettledHeld.moves.settled s).notLowered
  · split
    · split
      · exact (SettledHeld.moves.tracker _ s (by intro _; rfl)).notLowered
      · exact (SettledHeld.moves.fault _ _ s).notLowered
    · split
      · exact (SettledHeld.moves.fault _ _ s).notLowered
      · exact settleAccepted_notLowered b s

theorem trackSettle_of_idle {b : Tick} (h : s.controller.phase = .idle) : trackSettle b s = settleTaken s := if_pos h

/-- A waiting SETTLE frame is handled with the S of the pass, or in IDLE with none. -/
theorem endPass_notLowered (h : HeadTaken s t) : NotLowered s (endPass t) := by
  cases hrun : t.faults.halted with
  | true =>
    rw [endPass_halted hrun]
    rcases h.tracker with e | ⟨e, -⟩ | ⟨e, -⟩
    · exact SettledHeld.notLowered (.inl (by rw [e]))
    · exact SettledHeld.notLowered (.inr (by rw [e]; rfl))
    · exact SettledHeld.notLowered (.inr (by rw [e]; rfl))
  | false =>
    rcases h.tracker with e | ⟨-, hhalted⟩ | ⟨e, hidle⟩
    · have hover : s.tracker.settled = (passOver t).tracker.settled := by rw [← e]; rfl
      refine .of_settled_eq hover ?_
      rw [endPass_running hrun]
      split
      · exact SettledHeld.notLowered (.inl rfl)
      · exact trackSettle_notLowered _ _
    · exact absurd (hrun.symm.trans hhalted) Bool.false_ne_true
    · have hnone : (passOver t).tracker.settled = none := congrArg Tracker.settled e
      refine SettledHeld.notLowered (.inr ?_)
      rw [endPass_running hrun]
      split
      · exact hnone
      · rw [trackSettle_of_idle (s := passOver t) hidle, settleTaken_tracker]
        exact hnone

theorem runPass_notLowered (s : State) : NotLowered s (runPass s) := by
  by_cases hpass : s.tracker.passInProgress = true
  · have htracker : (holdQuiet (assemblerStage s)).tracker = s.tracker :=
      (Reported.holdQuiet _).tracker.trans (StageReach.moves.assemblerStage s).tracker
    rw [runPass_running hpass]
    exact .of_settled_eq (by rw [htracker]) (endPass_notLowered (controllerStage_taken _))
  · rw [runPass, if_neg hpass]
    exact SettledHeld.notLowered (.inl rfl)

end

/-- Settles O7: no move but the beginning of a pass sets S, and that one does not lower it. -/
theorem settledTickNeverDecreases : Obligations.SettledTickNeverDecreases := by
  intro c s t a b ht
  refine (?_ : NotLowered s t) a b
  have m := SettledHeld.moves
  cases happens_of_exec ht with
  | nothing => exact (m.refl s).notLowered
  | fault _ code sel => exact (m.fault code sel s).notLowered
  | sample f x => exact (m.trans (m.offerSample f x.card s) (m.trackSample x _)).notLowered
  | settle f b p =>
    exact .of_settled_eq (by rw [(Reported.offerPass p s).tracker]) (trackSettle_notLowered b _)
  | process f x => exact (m.takeProcess x s).notLowered
  | pass => exact runPass_notLowered s
  | unit _ ev d => exact (m.unitStep ev d s).notLowered
  | ready level => exact (SettledHeld.of_reported (s := s.withReady level) (.arbitrate _)).notLowered
  | done => exact (SettledHeld.of_reported (transmissionDone_reported s)).notLowered
  | mgmt _ x => exact (m.acceptMgmt SettledHeld.carryOut x s).notLowered
  | powerOn => exact SettledHeld.notLowered (.inr (congrArg Tracker.settled (arbitrate_tracker _)))
  | link f tag => exact (SettledHeld.linkReset tag s).notLowered

/-! ## BURST (R91) -/

/-- BURST, or IDLE. -/
def Spent (s : State) : Prop := s.controller.phase = .burst ∨ s.controller.phase = .idle

namespace Spent
variable {s t : State}

theorem congr (h : Spent s) (e : t.controller.phase = s.controller.phase) : Spent t := by
  unfold Spent
  rw [e]
  exact h

theorem reported (r : Reported s t) (h : Spent s) : Spent t := h.congr r.phase

theorem rupturePhase (h : Spent s) : rupturePhase s.controller.phase = false := by
  rcases h with e | e <;> rw [e] <;> rfl

theorem reportFault (code : FaultCode) (sel : Option Nat) (h : Spent s) : Spent (reportFault code sel s) := by
  rcases reportFault_cases code sel s with hr | ⟨f, -, e⟩
  · exact h.reported hr
  · rw [e, Spent, enterHalted_controller]
    exact .inr rfl

theorem tickMoves : TickMoves fun s t => Spent s → Spent t where
  refl _ := id
  trans h g := g ∘ h
  offer r s := .reported (.offerRecord r s)
  raise c s := .reported (.raise c s)
  counters f s := .reported (.onCounters f s)
  units _ _ := id
  draws _ _ := id
  list _ _ _ := id
  notice _ _ _ _ _ := id
  inFlight _ _ := id
  tracker _ _ _ := id
  pass p s := .reported (.offerPass p s)
  settled s := .reported (.settleTaken s)
  fault code sel _ := reportFault code sel

theorem placeMoves : PlaceMoves fun s t => Spent s → Spent t where
  toReportMoves := tickMoves.toReportMoves
  told := tickMoves.notice
  landed _ := id
  taken _ := id
  join _ _ _ _ := id
  opened _ _ _ _ := id
  free _ _ := id

/-- Without a rupture a close leaves the phase. -/
theorem closeReport (r : CloseReport) (h : Spent s) : Spent (closeReport r s) := by
  rcases closeReport_cases r s with noted | ⟨_, -, hrupture, -⟩
  · exact h.congr noted.phase
  · exact absurd (h.rupturePhase.symm.trans hrupture) Bool.false_ne_true

theorem examineSlot (t : Tick) (s : State) (i : Fin 8) (h : Spent s) : Spent (examineSlot t s i) := by
  unfold Machine.examineSlot
  split
  · exact h
  · split
    · exact h
    · exact placeMoves.free i _ (closeReport _ (h.reported (.offerRecord _ _)))

theorem assemblerStage (h : Spent s) : Spent (assemblerStage s) := by
  have hplaced := placeMoves.takeEntries (settledEntries (passTick s) s) s h
  rw [assemblerStage_eq]
  exact placeMoves.deliverNotices _ (placeMoves.foldl (fun i s => examineSlot _ s i) _ _ hplaced)

theorem orderLegal (o : Order) (h : Spent s) (hl : orderLegal s.controller.phase o = true) : o = .finish := by
  rcases h with e | e
  all_goals
    rw [e] at hl
    cases o with
    | finish => rfl
    | arm | ramp | hold | unload | mute | unmute | swap | await => cases hl

theorem examineHead (h : Spent s) : Spent (examineHead s) := by
  unfold Machine.examineHead
  split
  · exact h
  · next q rest hq =>
    split
    · next hl =>
      obtain ⟨u, r, -, e⟩ := finishTaken_eq q.tag (popHead s)
      rw [takeOrder, h.orderLegal q.order hl]
      show Spent (finishTaken q.tag (popHead s))
      rw [e]
      exact .inr ((answer_phase ..).trans (offerRecord_phase ..))
    · exact (h.congr (t := popHead s) rfl).reported (.answer _ _)

theorem runPass (h : Spent s) : Spent (runPass s) := by
  unfold Machine.runPass
  split
  · exact tickMoves.endPass (fun _ _ => id) _ (examineHead (h.assemblerStage.reported (.holdQuiet _)))
  · exact h

end Spent

/-- An order that arrives in BURST is turned away or queued. -/
theorem orderArrives_burst {o : Order} {tag : Byte} {s : State} (h : s.controller.phase = .burst) :
    (orderArrives o tag s).controller.phase = .burst := by
  rw [orderArrives, if_neg (by rw [h]; simp), orderInTest]
  split
  · exact (answer_phase ..).trans h
  · split
    · exact (answer_phase ..).trans h
    · exact h

theorem CarriedOut.spent {x : MgmtFrame} {s t : State} (hs : s.controller.phase = .burst) (h : CarriedOut x s t) :
    Spent t := by
  cases h with
  | plain hu =>
    obtain ⟨m0, m1, e⟩ := hu.controller
    refine .inl ((answer_phase ..).trans ?_)
    rw [e]
    exact hs
  | dropped => exact .inl ((answer_phase ..).trans ((cancelOrders_reported s).phase.trans hs))
  | ordered => exact .inl (orderArrives_burst hs)
  | reset => exact .inr (congrArg Controller.phase (arbitrate_controller _))

/-- Settles O6: in BURST a pass takes FINISH alone and no close is a rupture, and everything else leaves the phase or ends
the test. -/
theorem burstLeftOnlyToIdle : Obligations.BurstLeftOnlyToIdle := by
  intro c s t ht hburst hwaiting
  have h : Spent s := .inl hburst
  have m := Spent.tickMoves
  refine (?_ : Spent t)
  cases happens_of_exec ht with
  | nothing => exact h
  | fault _ code sel => exact h.reportFault code sel
  | sample f x => exact m.trackSample x _ (m.offerSample f x.card s h)
  | settle f b p => exact m.trackSettle (fun _ _ => id) b _ (m.pass p s h)
  | process f x =>
    obtain ⟨g, hr⟩ := takeProcess_reported x s
    exact h.congr hr.phase
  | pass => exact h.runPass
  | unit _ ev d => exact m.unitStep ev d s h
  | ready level => exact h.congr (arbitrate_phase (s.withReady level))
  | done => exact h.reported (transmissionDone_reported s)
  | mgmt _ x =>
    rw [acceptMgmt_idle hwaiting]
    split
    · exact h.reported (.raise _ _)
    · have hcarried : Spent (carryOut x (accepted x s)) :=
        (carryOut_carried x (accepted x s)).spent (s := accepted x s) hburst
      exact hcarried
  | powerOn => exact .inr (congrArg Controller.phase (arbitrate_controller _))
  | link f tag => exact .inr (congrArg Controller.phase (arbitrate_controller _))

end Sys2Proof.Machine

/-! # Reservations, answers and the order queue (R143, R144, R94, R156) -/

namespace Sys2Proof.Machine

/-- The reservations number the queued orders and `k` more, answers included all within their places, and the responder has
`m` in hand and no frame waiting. -/
structure Owed (k : Nat) (m : Option MgmtFrame) (s : State) : Prop where
  places : s.outlet.reservations + s.outlet.answers.length ≤ 8
  orders : s.controller.queue.length ≤ 4
  reservations : s.outlet.reservations = s.controller.queue.length + k
  responder : s.responder = { inHand := m, waiting := [] }

theorem owed_iff (s : State) : AnswersSound s ↔ Owed 0 none s := by
  constructor
  · rintro ⟨hplaces, horders, hreservations, hhand, hwaiting⟩
    refine ⟨hplaces, horders, hreservations, ?_⟩
    rw [← hhand, ← hwaiting]
  · rintro ⟨hplaces, horders, hreservations, hresponder⟩
    exact ⟨hplaces, horders, hreservations, by rw [hresponder], by rw [hresponder]⟩

/-! ## What leaves them -/

/-- The reservations, the queue and the responder stand, and answers may have been sent. -/
structure AnswersHeld (s t : State) : Prop where
  reservations : t.outlet.reservations = s.outlet.reservations
  answers : t.outlet.answers.length ≤ s.outlet.answers.length
  queue : t.controller.queue = s.controller.queue
  responder : t.responder = s.responder

namespace AnswersHeld
variable {s t u : State}

theorem refl (s : State) : AnswersHeld s s := ⟨rfl, le_rfl, rfl, rfl⟩

theorem trans (h : AnswersHeld s t) (g : AnswersHeld t u) : AnswersHeld s u :=
  ⟨g.reservations.trans h.reservations, g.answers.trans h.answers, g.queue.trans h.queue, g.responder.trans h.responder⟩

theorem arbitrate (s : State) : AnswersHeld s (arbitrate s) := by
  refine ⟨arbitrate_reservations s, ?_, arbitrate_queue s, arbitrate_responder s⟩
  rw [arbitrate_outlet]
  split
  · rcases chooseNext_cases s.outlet with ⟨_, _, e⟩ | ⟨_, _, _, h, e⟩ | ⟨_, _, _, _, _, e⟩ | ⟨_, _, _, _, _, _, e⟩ |
      ⟨_, _, _, _, e⟩
    all_goals rw [e]
    rw [h]
    exact Nat.le_succ _
  · exact le_rfl

theorem arbitrated (h : AnswersHeld s u) : AnswersHeld s (Machine.arbitrate u) := h.trans (arbitrate u)

theorem of_offered (h : Offered s u) (r : Reported s u) : AnswersHeld s (Machine.arbitrate u) :=
  trans ⟨h.reservations, by rw [h.answers], r.queue, r.responder⟩ (arbitrate u)

theorem offer (r : Record) (s : State) : AnswersHeld s (offerRecord r s) := of_offered (.offerDepth 3 r s) (.offerDepth 3 r s)

theorem raise (c : Condition) (s : State) : AnswersHeld s (raise c s) :=
  of_offered (.raiseWith (.offerDepth 3) c s) (.raiseWith (.offerDepth 3) c s)

theorem raised {c : Condition} (h : AnswersHeld s u) : AnswersHeld s (Machine.raise c u) := h.trans (raise c u)

theorem unitMoves : UnitMoves AnswersHeld where
  refl := refl
  trans := trans
  offer := offer
  raise := raise
  counters _ _ := ⟨rfl, le_rfl, rfl, rfl⟩
  units _ _ := ⟨rfl, le_rfl, rfl, rfl⟩
  draws _ _ := ⟨rfl, le_rfl, rfl, rfl⟩
  list _ _ _ := ⟨rfl, le_rfl, rfl, rfl⟩
  notice _ _ _ _ _ := ⟨rfl, le_rfl, rfl, rfl⟩
  inFlight _ _ := ⟨rfl, le_rfl, rfl, rfl⟩

theorem stageMoves : StageMoves AnswersHeld where
  toReportMoves := unitMoves.toReportMoves
  stop := unitMoves.stopUnit
  wake _ _ _ := ⟨rfl, le_rfl, rfl, rfl⟩
  controller _ _ hqueue _ := ⟨rfl, le_rfl, hqueue, rfl⟩
  told := unitMoves.notice
  landed _ := ⟨rfl, le_rfl, rfl, rfl⟩
  taken _ := ⟨rfl, le_rfl, rfl, rfl⟩
  join _ _ _ _ := ⟨rfl, le_rfl, rfl, rfl⟩
  opened _ _ _ _ := ⟨rfl, le_rfl, rfl, rfl⟩
  free _ _ := ⟨rfl, le_rfl, rfl, rfl⟩

theorem offerPass (p : PassFrame) (s : State) : AnswersHeld s (offerPass p s) := by
  unfold Machine.offerPass
  split
  · exact refl s
  · split
    · exact raised ⟨rfl, le_rfl, rfl, rfl⟩
    · exact arbitrated ⟨rfl, le_rfl, rfl, rfl⟩

theorem settleTaken (s : State) : AnswersHeld s (settleTaken s) := by
  unfold Machine.settleTaken
  refine ⟨?_, ?_, rfl, rfl⟩
  all_goals
    rw [State.onOutlet_outlet]
    split_ifs <;> rfl

theorem takeProcess (x : ProcessFrame) (s : State) : AnswersHeld s (takeProcess x s) := by
  unfold Machine.takeProcess
  split
  · exact ⟨rfl, le_rfl, rfl, rfl⟩
  · exact raised ⟨rfl, le_rfl, rfl, rfl⟩

end AnswersHeld

/-! ## What answers -/

namespace Owed
variable {k : Nat} {m : Option MgmtFrame} {s t u : State}

theorem held (h : Owed k m s) (g : AnswersHeld s t) : Owed k m t := by
  obtain ⟨hplaces, horders, hreservations, hresponder⟩ := h
  refine ⟨?_, by rw [g.queue]; exact horders, by rw [g.reservations, g.queue, hreservations], g.responder.trans hresponder⟩
  rw [g.reservations]
  exact Nat.le_trans (Nat.add_le_add_left g.answers _) hplaces

/-- A built answer fills a reservation (R144). -/
theorem answer (a : Answer) (h : Owed (k + 1) m s) : Owed k m (answer a s) := by
  obtain ⟨hplaces, horders, hreservations, hresponder⟩ := h
  refine held (s := s.onOutlet fun o => { o with answers := o.answers ++ [a], reservations := o.reservations - 1 })
    ⟨?_, horders, ?_, hresponder⟩ (.arbitrate _)
  · simp only [State.onOutlet_outlet, List.length_append, List.length_singleton]
    omega
  · simp only [State.onOutlet_outlet, State.onOutlet_controller]
    omega

theorem answerEach {as : List Answer} (h : Owed (k + as.length) m s) : Owed k m (answerEach as s) := by
  induction as generalizing s with
  | nil => exact h
  | cons a as ih => exact ih (answer a h)

/-- The cancelled orders give their reservations to their answers (R158). -/
theorem cancelOrders (h : Owed k m s) : Owed k m (cancelOrders s) := by
  obtain ⟨hplaces, -, hreservations, hresponder⟩ := h
  refine answerEach ⟨hplaces, Nat.zero_le _, ?_, hresponder⟩
  simp only [State.onController_outlet, State.onController_controller, List.length_nil, List.length_map]
  omega

theorem enterHalted (h : Owed k m s) : Owed k m (enterHalted s) := by
  have hcancelled := cancelOrders (s := (((((s.onFaults fun u => { u with halted := true }).onTracker fun _ => .initial).onUnits
    (mapVec darkUnit)).onAssembler fun a => { a with arrivals := [], slots := Vector.replicate 8 none, inFlight := [] }).onOutlet
    fun o => { o with records := [], passBuffer := [] }).onController fun c =>
      { c with phase := .idle, mutedFrom := none, phaseEvents := 0, ramp := none, hold := none })
    (k := k) (m := m) ⟨h.places, h.orders, h.reservations, h.responder⟩
  unfold Machine.enterHalted
  dsimp only
  rw [show (Machine.cancelOrders _).responder.waiting = [] from congrArg Responder.waiting hcancelled.responder]
  refine ⟨hcancelled.places, hcancelled.orders, hcancelled.reservations, ?_⟩
  exact congrArg (fun r : Responder => { r with waiting := [] }) hcancelled.responder

theorem reportFault (code : FaultCode) (sel : Option Nat) (h : Owed k m s) : Owed k m (reportFault code sel s) := by
  unfold Machine.reportFault
  split
  · exact h
  · split
    · exact h.held (.arbitrated ⟨rfl, le_rfl, rfl, rfl⟩)
    · split
      · exact ⟨h.places, h.orders, h.reservations, h.responder⟩
      · exact enterHalted (s := s.onOutlet _) ⟨h.places, h.orders, h.reservations, h.responder⟩

theorem tickMoves (k : Nat) (m : Option MgmtFrame) : TickMoves fun s t => Owed k m s → Owed k m t where
  refl _ := id
  trans h g := g ∘ h
  offer r s h := h.held (.offer r s)
  raise c s h := h.held (.raise c s)
  counters f s h := h.held (AnswersHeld.unitMoves.counters f s)
  units f s h := h.held (AnswersHeld.unitMoves.units f s)
  draws n s h := h.held (AnswersHeld.unitMoves.draws n s)
  list x s hx h := h.held (AnswersHeld.unitMoves.list x s hx)
  notice c n f s hf h := h.held (AnswersHeld.unitMoves.notice c n f s hf)
  inFlight g s h := h.held (AnswersHeld.unitMoves.inFlight g s)
  tracker _ _ _ h := ⟨h.places, h.orders, h.reservations, h.responder⟩
  pass p s h := h.held (.offerPass p s)
  settled s h := h.held (.settleTaken s)
  fault code sel _ := reportFault code sel

theorem step (h : Owed k m s) (g : StageStep s t) : Owed k m t := h.held (g _ AnswersHeld.stageMoves)

/-! ## Orders -/

theorem swapTable (name : TableName) (h : Owed k m s) : Owed k m (swapTable name s) := by
  have hcopied : Owed k m (s.onActive fun t => handled s.staged t name) :=
    ⟨h.places, h.orders, h.reservations, h.responder⟩
  rw [swapTable_eq]
  match swapReport name s with
  | some (code, sel) => exact hcopied.reportFault code sel
  | none => exact hcopied

theorem handleTables (ts : List TableName) (h : Owed k m s) : Owed k m (handleTables ts s) := by
  induction ts generalizing s with
  | nil => exact h
  | cons t ts ih =>
    unfold Machine.handleTables
    split
    · exact h
    · exact ih (h.swapTable t)

theorem swapOrder (name : SwapName) (tag : Byte) (h : Owed (k + 1) m s) : Owed k m (swapOrder name tag s) := by
  have htables : Owed (k + 1) m (tablesSwapped name s) := h.handleTables _
  rw [swapOrder_eq]
  refine answer _ ?_
  split
  · exact htables
  · exact htables.step fun _ moves => moves.swapDirectives _ _

theorem armOrder (tag : Byte) (h : Owed (k + 1) m s) : Owed k m (armOrder tag s) := by
  rw [armOrder_eq]
  refine answer _ (held (s := offerRecord (armedRecord s) (testBegun s)) ?_ (AnswersHeld.unitMoves.units _ _))
  exact held (s := testBegun s) ⟨h.places, h.orders, h.reservations, h.responder⟩ (.offer _ _)

/-- An order that arrives is answered, or keeps its reservation in the queue (R93, R94, R156). -/
theorem orderArrives (o : Order) (tag : Byte) (h : Owed 1 m s) : Owed 0 m (orderArrives o tag s) := by
  unfold Machine.orderArrives
  split
  · cases o with
    | arm => exact h.armOrder tag
    | swap name => exact h.swapOrder name tag
    | _ => exact h.answer _
  · unfold orderInTest
    split
    · exact h.answer _
    · split
      · exact h.answer _
      · next hroom =>
        have hroom : ¬4 ≤ s.controller.queue.length := hroom
        obtain ⟨hplaces, -, hreservations, hresponder⟩ := h
        refine ⟨hplaces, ?_, ?_, hresponder⟩
        all_goals
          simp only [State.onController_controller, State.onController_outlet, List.length_append, List.length_singleton]
          omega

theorem carriedOut {x : MgmtFrame} (h : Owed 1 m s) (hkind : x.kind ≠ .resetLink) (g : CarriedOut x s t) :
    Owed 0 m t := by
  cases g with
  | plain hu =>
    obtain ⟨m0, m1, e⟩ := hu.controller
    refine answer _ ⟨by rw [hu.outlet]; exact h.places, by rw [e]; exact h.orders, ?_, hu.responder.trans h.responder⟩
    rw [hu.outlet, e]
    exact h.reservations
  | dropped => exact h.cancelOrders.answer _
  | ordered => exact h.orderArrives _ _
  | reset hreset => exact absurd hreset hkind

theorem popHead {q : QueuedOrder} {rest : List QueuedOrder} (hq : s.controller.queue = q :: rest) (h : Owed k m s) :
    Owed (k + 1) m (popHead s) := by
  obtain ⟨hplaces, horders, hreservations, hresponder⟩ := h
  rw [hq, List.length_cons] at horders hreservations
  rw [popHead_eq hq]
  refine ⟨hplaces, ?_, ?_, hresponder⟩
  all_goals
    simp only [State.onController_controller, State.onController_outlet]
    omega

theorem headTaken (h : Owed k m s) (g : HeadTaken s t) : Owed k m t := by
  cases g with
  | none => exact h
  | stalled => exact ⟨h.places, h.orders, h.reservations, h.responder⟩
  | answered hq hu => exact ((h.popHead hq).step hu).answer _
  | swapped hq => exact (h.popHead hq).swapOrder _ _
  | @finished q _ r u hq hu =>
    have hcancelled : Owed (k + 1) m (Machine.cancelOrders u) := ((h.popHead hq).step hu).cancelOrders
    have hidled : Owed (k + 1) m ((Machine.cancelOrders u).onController idled) :=
      ⟨hcancelled.places, hcancelled.orders, hcancelled.reservations, hcancelled.responder⟩
    have hoffered := hidled.held (.offer r _)
    exact answer _ ⟨hoffered.places, hoffered.orders, hoffered.reservations, hoffered.responder⟩

theorem runPass (h : Owed k m s) : Owed k m (runPass s) := by
  by_cases hpass : s.tracker.passInProgress = true
  · rw [runPass_running hpass]
    have hquiet : Owed k m (holdQuiet (assemblerStage s)) :=
      h.step fun _ moves => moves.trans (moves.assemblerStage s) (moves.holdQuiet _)
    exact (tickMoves k m).endPass (fun _ _ hs => ⟨hs.places, hs.orders, hs.reservations, hs.responder⟩) _
      (hquiet.headTaken (controllerStage_taken _))
  · rw [Machine.runPass, if_neg hpass]
    exact h

/-! ## Commands -/

theorem acceptMgmt {x : MgmtFrame} (hkind : x.kind ≠ .resetLink) (h : Owed 0 none s) : Owed 0 none (acceptMgmt x s) := by
  rw [acceptMgmt_idle (by rw [h.responder])]
  split
  · exact h.held (.raise _ _)
  · next hroom =>
    have hroom : ¬8 ≤ s.outlet.reservations + s.outlet.answers.length := fun hfull => hroom (decide_eq_true hfull)
    have haccepted : Owed 1 (some x) (accepted x s) := by
      refine ⟨?_, h.orders, ?_, rfl⟩
      · show s.outlet.reservations + 1 + s.outlet.answers.length ≤ 8
        omega
      · show s.outlet.reservations + 1 = _
        rw [h.reservations]
        rfl
    have hcarried := haccepted.carriedOut hkind (carryOut_carried x _)
    refine ⟨hcarried.places, hcarried.orders, hcarried.reservations, ?_⟩
    exact congrArg (fun r : Responder => { r with inHand := none }) hcarried.responder

theorem powerOnReset (s : State) : Owed 0 none (powerOnReset s) := by
  rw [powerOnReset_eq]
  exact ⟨by simp [Outlet.empty], Nat.zero_le _, rfl, rfl⟩

theorem linkReset (tag : Byte) (s : State) : Owed 0 none (linkReset tag s) := by
  rw [linkReset_eq]
  refine ⟨?_, Nat.zero_le _, rfl, rfl⟩
  cases s.ready <;> simp [Outlet.empty]

theorem happens {c : Instr} (g : Happens s c t) (h : Owed 0 none s) : Owed 0 none t := by
  have moves := tickMoves 0 none
  cases g with
  | nothing => exact h
  | fault _ code sel => exact h.reportFault code sel
  | sample f x => exact moves.trackSample x _ (moves.offerSample f x.card s h)
  | settle f b p =>
    exact moves.trackSettle (fun _ _ hs => ⟨hs.places, hs.orders, hs.reservations, hs.responder⟩) b _ (moves.pass p s h)
  | process f x => exact h.held (.takeProcess x s)
  | pass => exact h.runPass
  | unit _ ev d => exact moves.unitStep ev d s h
  | ready level => exact h.held (.arbitrated ⟨rfl, le_rfl, rfl, rfl⟩)
  | done => exact h.held (.arbitrated ⟨rfl, le_rfl, rfl, rfl⟩)
  | mgmt _ x _ hkind => exact h.acceptMgmt hkind
  | powerOn => exact powerOnReset s
  | link f tag => exact linkReset tag s

end Owed

/-- Settles O56: what each step does with a reservation, `Owed.happens`. -/
theorem answersKept : Obligations.AnswersKept := by
  intro s t hstep
  rw [owed_iff, owed_iff]
  exact step_keeps (P := Owed 0 none) (fun _ _ h => ⟨h.places, h.orders, h.reservations, h.responder⟩)
    (fun _ _ _ => Owed.happens) hstep

end Sys2Proof.Machine

/-! # Units as they take samples -/

namespace Sys2Proof.Machine

/-- What a sample, taken from the lane under the active entry `e`, makes of a unit (R22 to R31). -/
inductive Taken (e : ChannelEntry) (x : LaneSample) (u : ChannelUnit) : ChannelUnit → Prop
  | ignored : (∀ h, u.ctx ≠ .openHit h) → Taken e x u u
  | readied : u.ctx ≠ .dark → Taken e x u { u with ctx := .ready }
  | started (n l) : u.ctx ≠ .dark → modeListens e.mode = true → e.threshold ≤ x.value.natAbs → 1 < e.limit →
      Taken e x u { u with serial := n, ctx := .openHit (startedHit e x l) }
  | tracked {h} : u.ctx = .openHit h → (trackHit h x).quietRun < h.snap.quiet → x.tick + 1 < h.raw + h.snap.limit →
      Taken e x u { u with ctx := .openHit (trackHit h x) }
  | ended (n t) : u.ctx ≠ .dark → Taken e x u { u with serial := n, ctx := .rearm t }

section
variable {c : Chan} {x : LaneSample} {s t : State} {u v w : ChannelUnit} {e : ChannelEntry}

theorem hitBegun_units (c : Chan) (x : LaneSample) (s : State) : (hitBegun c x s).units =
    (s.onUnit c fun u => { u with serial := (s.units[c].serial + 1) % 65536, ctx := .openHit (begunHit c x s) }).units := by
  have listed (f : ChannelUnit → ChannelUnit) :
      ((takeArrival (startArrival c x s) s).onUnit c f).units = (s.onUnit c f).units := by
    simp only [State.onUnit, State.onUnits_units, takeArrival_units]
  unfold hitBegun
  dsimp only
  split
  · exact (clipNotice_units ..).trans (listed _)
  · exact listed _

theorem endHit_units (c : Chan) (h : Hit) (k : HitEnd) (t : Tick) (s : State) : (endHit c h k t s).units =
    (s.onUnit c fun u => { u with ctx := .rearm (t + h.snap.rearm + 1) }).units := by
  simp only [endHit, setCtx, State.onUnit, State.onUnits_units, endSequence_units]

theorem clipTold_units (c : Chan) (x : LaneSample) (h : Hit) (s : State) : (clipTold c x h s).units = s.units := by
  unfold clipTold
  split <;> rfl

theorem onUnit_units_congr {f : ChannelUnit → ChannelUnit} (h : t.units = s.units) :
    (t.onUnit c f).units = (s.onUnit c f).units := by
  simp only [State.onUnit, State.onUnits_units, h]

/-- The units after an end at once: the context entered last stands. -/
theorem onUnit_ended {f g : ChannelUnit → ChannelUnit} (h : t.units = (s.onUnit c f).units) :
    (t.onUnit c g).units = (s.onUnit c fun u => g (f u)).units := by
  rw [onUnit_units_congr h, State.onUnit_onUnit]

/-- `t` has the units of `s`, with the sample taken by that of channel `c`. -/
def TakenAt (c : Chan) (x : LaneSample) (s t : State) : Prop :=
  ∃ f : ChannelUnit → ChannelUnit, Taken s.active.channels[c] x s.units[c] (f s.units[c]) ∧
    t.units = (s.onUnit c f).units

theorem TakenAt.stays (h : ∀ hit, s.units[c].ctx ≠ .openHit hit) : TakenAt c x s s :=
  ⟨id, .ignored h, by rw [State.onUnit_eq_self rfl]⟩

theorem startHit_takenAt (hctx : s.units[c].ctx ≠ .dark) (hlistens : modeListens s.active.channels[c].mode = true)
    (hmet : s.active.channels[c].threshold ≤ x.value.natAbs) : TakenAt c x s (startHit c x s) := by
  rw [startHit_eq]
  split
  · exact ⟨_, .ended _ _ hctx, (endHit_units ..).trans (onUnit_ended (hitBegun_units c x s))⟩
  · next hlimit => exact ⟨_, .started _ _ hctx hlistens hmet (Nat.not_le.mp hlimit), hitBegun_units c x s⟩

theorem takeReady_cases (c : Chan) (x : LaneSample) (s : State) : takeReady c x s = s ∨
    modeListens s.active.channels[c].mode = true ∧ s.active.channels[c].threshold ≤ x.value.natAbs ∧
      takeReady c x s = startHit c x s := by
  by_cases hc : modeListens s.active.channels[c].mode = true ∧ s.active.channels[c].threshold ≤ x.value.natAbs
  · exact .inr ⟨hc.1, hc.2, takeReady_starts (modeListens_iff.mp hc.1) hc.2⟩
  · refine .inl (takeReady_stays ?_)
    rcases not_and_or.mp hc with h | h
    · exact .inl (by rw [modeListens_iff, not_not] at h; exact h)
    · exact .inr (Nat.not_le.mp h)

theorem takeOpen_takenAt {h : Hit} (hctx : s.units[c].ctx = .openHit h) : TakenAt c x s (takeOpen c h x s) := by
  have hopen : s.units[c].ctx ≠ .dark := by rw [hctx]; nofun
  have htold : (setCtx c (.openHit (trackHit h x)) (clipTold c x h s)).units =
      (s.onUnit c fun u => { u with ctx := .openHit (trackHit h x) }).units :=
    onUnit_units_congr (clipTold_units c x h s)
  rw [takeOpen_eq]
  split
  · exact ⟨_, .ended _ _ hopen, (endHit_units ..).trans (onUnit_ended htold)⟩
  · next hquiet =>
    split
    · exact ⟨_, .ended _ _ hopen, (endHit_units ..).trans (onUnit_ended htold)⟩
    · next hlimit => exact ⟨_, .tracked hctx (Nat.not_le.mp hquiet) (Nat.not_le.mp hlimit), htold⟩

/-- A start from REARM is a start from READY. -/
theorem Taken.of_readied (hctx : u.ctx ≠ .dark) (h : Taken e x { u with ctx := .ready } v) : Taken e x u v := by
  cases h with
  | ignored => exact .readied hctx
  | readied => exact .readied hctx
  | started n l _ hlistens hmet hlimit => exact .started n l hctx hlistens hmet hlimit
  | tracked hopen => cases hopen
  | ended n t _ => exact .ended n t hctx

theorem TakenAt.of_readied (hctx : s.units[c].ctx ≠ .dark) (h : TakenAt c x (setCtx c .ready s) t) : TakenAt c x s t := by
  obtain ⟨f, hf, e⟩ := h
  refine ⟨fun u => f { u with ctx := .ready }, ?_, by rw [e, setCtx, State.onUnit_onUnit]⟩
  have hunit : (setCtx c .ready s).units[c] = { s.units[c] with ctx := .ready } := State.onUnit_same ..
  rw [hunit] at hf
  exact .of_readied hctx hf

/-- The taking of a sample, as the unit sees it. -/
theorem takeSample_takenAt (c : Chan) (x : LaneSample) (s : State) : TakenAt c x s (takeSample c x s) := by
  have fromReady {r : State} (hr : r.units[c].ctx = .ready) : TakenAt c x r (takeReady c x r) := by
    rcases takeReady_cases c x r with e | ⟨hlistens, hmet, e⟩
    · rw [e]; exact .stays (by rw [hr]; nofun)
    · rw [e]; exact startHit_takenAt (by rw [hr]; nofun) hlistens hmet
  cases hctx : s.units[c].ctx with
  | dark => rw [takeSample_dark hctx]; exact .stays (by rw [hctx]; nofun)
  | ready => rw [takeSample_ready hctx]; exact fromReady hctx
  | openHit h => rw [takeSample_open hctx]; exact takeOpen_takenAt hctx
  | rearm ready =>
    by_cases ht : x.tick < ready
    · rw [takeSample_rearm_below hctx ht]; exact .stays (by rw [hctx]; nofun)
    · rw [takeSample_rearm hctx (Nat.not_lt.mp ht)]
      refine .of_readied (by rw [hctx]; nofun) (fromReady ?_)
      exact congrArg ChannelUnit.ctx (State.onUnit_same s c fun u => { u with ctx := .ready })

end

/-! ## Several samples, one after the other -/

/-- The unit takes samples from the front of its lane, none or more. -/
inductive Runs (e : ChannelEntry) : ChannelUnit → ChannelUnit → Prop
  | refl (u : ChannelUnit) : Runs e u u
  | head {u v w : ChannelUnit} {x : LaneSample} {xs : List LaneSample} :
      u.lane = x :: xs → Taken e x { u with lane := xs } v → Runs e v w → Runs e u w

section
variable {s t : State} {u v w : ChannelUnit} {e : ChannelEntry}

theorem Runs.trans (h : Runs e u v) (g : Runs e v w) : Runs e u w := by
  induction h with
  | refl => exact g
  | head hlane htaken _ ih => exact .head hlane htaken (ih g)

/-- What one taken sample keeps, a run keeps. -/
theorem Runs.keeps {P : ChannelUnit → Prop}
    (hP : ∀ {u v x xs}, u.lane = x :: xs → Taken e x { u with lane := xs } v → P u → P v) (h : Runs e u v) (hu : P u) :
    P v := by
  induction h with
  | refl => exact hu
  | head hlane htaken _ ih => exact ih (hP hlane htaken hu)

/-- `t` is `s` but that units have taken samples that they held, and for what follows from it outside the units. -/
structure UnitsRun (s t : State) : Prop where
  reach : UnitReach s t
  runs : ∀ d : Chan, Runs s.active.channels[d] s.units[d] t.units[d]

namespace UnitsRun

theorem refl (s : State) : UnitsRun s s := ⟨.refl s, fun _ => .refl _⟩

theorem trans {r : State} (h : UnitsRun s t) (g : UnitsRun t r) : UnitsRun s r :=
  ⟨h.reach.trans g.reach, fun d => (h.runs d).trans (by have := g.runs d; rwa [h.reach.active] at this)⟩

theorem foldl {α : Type} {f : State → α → State} (h : ∀ a s, UnitsRun s (f s a)) (l : List α) (s : State) :
    UnitsRun s (l.foldl f s) := by
  induction l generalizing s with
  | nil => exact refl s
  | cons a l ih => exact (h a s).trans (ih _)

theorem takeHead (c : Chan) (s : State) : UnitsRun s (takeHead c s) := by
  refine ⟨UnitReach.moves.takeHead c s, fun d => ?_⟩
  cases hlane : s.units[c].lane with
  | nil =>
    have hstays : Machine.takeHead c s = s := by rw [Machine.takeHead, hlane]
    rw [hstays]
    exact .refl _
  | cons x xs =>
    have htakes : Machine.takeHead c s = takeSample c x (headTaken c xs s) := by rw [Machine.takeHead, hlane]; rfl
    obtain ⟨f, hf, hunits⟩ := takeSample_takenAt c x (headTaken c xs s)
    rw [htakes, hunits, State.onUnit_get]
    rw [headTaken_unit] at hf
    by_cases hd : c = d
    · subst hd
      rw [if_pos rfl, headTaken_unit]
      exact .head hlane hf (.refl _)
    · rw [if_neg hd, headTaken, State.onUnit_get, if_neg hd]
      exact .refl _

theorem takeLane (n : Nat) (c : Chan) (s : State) : UnitsRun s (takeLane n c s) := by
  induction n generalizing s with
  | zero => exact refl s
  | succ n ih => exact (takeHead c s).trans (ih _)

theorem runLane (n : Nat) (c : Chan) (s : State) : UnitsRun s (runLane n c s) := by
  induction n generalizing s with
  | zero => exact refl s
  | succ n ih =>
    unfold Machine.runLane
    split
    · exact refl s
    · exact (takeHead c s).trans (ih _)

theorem runUnit (c : Chan) (s : State) : UnitsRun s (runUnit c s) := runLane _ c s

theorem drainUnit (c : Chan) (s : State) : UnitsRun s (drainUnit c s) := takeLane _ c s

theorem drainCard (k : Card) (s : State) : UnitsRun s (drainCard k s) := foldl (fun c s => drainUnit c s) _ s

theorem drainAll (s : State) : UnitsRun s (drainAll s) := foldl (fun c s => drainUnit c s) _ s

theorem unitStep (ev : UnitEvent) (c : Chan) (s : State) : UnitsRun s (unitStep ev c s) := by
  unfold Machine.unitStep
  split
  · exact (takeHead c s).trans (runUnit c _)
  · exact refl s

end UnitsRun

end

end Sys2Proof.Machine

/-! # Tracker, phase and contexts: what leaves them sound -/

namespace Sys2Proof.Machine

/-- The relations of phase and contexts (R15, R18, R91, R94). -/
def ContextsSound (s : State) : Prop := PhaseSound s ∧ ListeningSound s

/-- The relations of tracker, phase and contexts. -/
def ControlSound (s : State) : Prop := TrackerSound s ∧ ContextsSound s

/-- A unit is dark as before, and a dark one's lane is as empty. -/
def DarkKept (u v : ChannelUnit) : Prop := (v.ctx = .dark ↔ u.ctx = .dark) ∧ (u.ctx = .dark → u.lane = [] → v.lane = [])

theorem DarkKept.refl (u : ChannelUnit) : DarkKept u u := ⟨.rfl, fun _ => id⟩

theorem DarkKept.trans {u v w : ChannelUnit} (h : DarkKept u v) (g : DarkKept v w) : DarkKept u w :=
  ⟨g.1.trans h.1, fun hdark hlane => g.2 (h.1.mpr hdark) (h.2 hdark hlane)⟩

theorem DarkKept.of_bright {u v : ChannelUnit} (hu : u.ctx ≠ .dark) (hv : v.ctx ≠ .dark) : DarkKept u v :=
  ⟨iff_of_false hv hu, fun hdark => absurd hdark hu⟩

/-- A taken sample neither darkens nor wakes. -/
theorem Taken.darkKept {e : ChannelEntry} {x : LaneSample} {u v : ChannelUnit} (h : Taken e x u v) : DarkKept u v := by
  cases h with
  | ignored => exact .refl u
  | readied hctx => exact .of_bright hctx nofun
  | started _ _ hctx => exact .of_bright hctx nofun
  | tracked hctx => exact .of_bright (by rw [hctx]; nofun) nofun
  | ended _ _ hctx => exact .of_bright hctx nofun

theorem Runs.darkKept {e : ChannelEntry} {u v : ChannelUnit} (h : Runs e u v) : DarkKept u v := by
  refine h.keeps (P := DarkKept u) (fun {v w x xs} hlane htaken hv => ?_) (.refl u)
  have hhead : DarkKept v { v with lane := xs } := ⟨.rfl, fun _ hnil => absurd (hlane.symm.trans hnil) nofun⟩
  exact hv.trans (hhead.trans htaken.darkKept)

/-- `t` is `s` in everything that phase and contexts go by, and in the tracker's S, B and pass. -/
structure Steady (s t : State) : Prop where
  tracker : ∃ e l, t.tracker = { s.tracker with expected := e, lag := l }
  units : ∀ c : Chan, DarkKept s.units[c] t.units[c]
  active : t.active = s.active
  halted : t.faults.halted = s.faults.halted
  phase : t.controller.phase = s.controller.phase
  mutedFrom : t.controller.mutedFrom = s.controller.mutedFrom
  queue : t.controller.queue = s.controller.queue
  stalled : t.controller.stalled = s.controller.stalled
  ramp : t.controller.ramp.isSome = s.controller.ramp.isSome
  hold : t.controller.hold.isSome = s.controller.hold.isSome

namespace Steady
variable {s t u : State}

theorem of_noted (h : Noted s t) : Steady s t :=
  ⟨⟨_, _, h.tracker⟩, fun c => by rw [h.units]; exact .refl _, h.active, h.halted, h.phase, h.mutedFrom, h.queue, h.stalled,
    h.ramp, h.hold⟩

theorem of_reported (h : Reported s t) : Steady s t := of_noted (.of_reported h)

theorem refl (s : State) : Steady s s := of_noted (.refl s)

theorem of_reach (h : UnitReach s t) (hunits : ∀ c : Chan, DarkKept s.units[c] t.units[c]) : Steady s t :=
  ⟨⟨_, _, h.tracker⟩, hunits, h.active, h.halted, h.phase, h.mutedFrom, h.queue, h.stalled, congrArg _ h.ramp,
    congrArg _ h.hold⟩

theorem trans (h : Steady s t) (g : Steady t u) : Steady s u := by
  obtain ⟨e, l, ht⟩ := h.tracker
  obtain ⟨e', l', hu⟩ := g.tracker
  exact ⟨⟨e', l', by rw [hu, ht]⟩, fun c => (h.units c).trans (g.units c), g.active.trans h.active,
    g.halted.trans h.halted, g.phase.trans h.phase, g.mutedFrom.trans h.mutedFrom, g.queue.trans h.queue,
    g.stalled.trans h.stalled, g.ramp.trans h.ramp, g.hold.trans h.hold⟩

theorem foldl {α : Type} {f : State → α → State} (h : ∀ a s, Steady s (f s a)) (l : List α) (s : State) :
    Steady s (l.foldl f s) := by
  induction l generalizing s with
  | nil => exact refl s
  | cons a l ih => exact (h a s).trans (ih _)

theorem of_run (h : UnitsRun s t) : Steady s t := of_reach h.reach fun c => (h.runs c).darkKept

/-- A dark unit that holds nothing ignores the sample; any other keeps its context's darkness. -/
theorem handSample (c : Chan) (x : LaneSample) (s : State) : Steady s (handSample c x s) := by
  by_cases hdark : s.units[c].ctx = .dark ∧ s.units[c].lane = []
  · obtain ⟨hctx, hlane⟩ := hdark
    rw [handSample_takes hlane (by rw [hctx]; rfl), takeSample_dark hctx]
    exact refl s
  · have hhanded : Steady s (handed c x s) := of_reach (UnitReach.moves.onUnit c _ s) fun d => by
      rw [handed, State.onUnit_get]
      split
      · next hd =>
        subst hd
        exact ⟨.rfl, fun hctx hlane => absurd ⟨hctx, hlane⟩ hdark⟩
      · exact .refl _
    rw [handSample_eq]
    exact hhanded.trans (of_run (.runUnit c _))

theorem handSets (k : Card) (t : Tick) (sets : List (List Int)) (s : State) : Steady s (handSets k t sets s) := by
  induction sets generalizing t s with
  | nil => exact refl s
  | cons v vs ih => exact (foldl (fun _ _ => handSample _ _ _) (List.finRange 8) s).trans (ih _ _)

theorem truncateCard (k : Card) (s : State) : Steady s (truncateCard k s) := by
  refine foldl (fun c s => of_reach (UnitReach.moves.truncateUnit c s) fun d => ?_) (cardChans k) s
  rw [truncateUnit_units, State.onUnit_get]
  split
  · next hd =>
    subst hd
    unfold truncatedUnit
    split
    · next hctx => exact .of_bright (by rw [hctx]; nofun) nofun
    all_goals exact .refl _
  · exact .refl _

theorem onTracker {f : Tracker → Tracker} (s : State) (h : ∃ e l, f s.tracker = { s.tracker with expected := e, lag := l }) :
    Steady s (s.onTracker f) := ⟨h, fun _ => .refl _, rfl, rfl, rfl, rfl, rfl, rfl, rfl, rfl⟩

end Steady

section
variable {s t : State}

theorem PhaseSound.steady (h : PhaseSound s) (g : Steady s t) : PhaseSound t := by
  obtain ⟨e, l, htracker⟩ := g.tracker
  unfold PhaseSound
  rw [g.phase, g.mutedFrom, g.hold, g.ramp, g.queue, g.stalled, g.halted, htracker]
  exact h

theorem ListeningSound.steady (h : ListeningSound s) (g : Steady s t) : ListeningSound t := by
  intro c
  obtain ⟨hbright, hdark⟩ := h c
  obtain ⟨hctx, hlane⟩ := g.units c
  rw [g.halted, g.phase, g.active]
  exact ⟨fun ht => hbright fun hs => ht (hctx.mpr hs), fun ht => hlane (hctx.mp ht) (hdark (hctx.mp ht))⟩

theorem ContextsSound.steady (h : ContextsSound s) (g : Steady s t) : ContextsSound t := ⟨h.1.steady g, h.2.steady g⟩

theorem TrackerSound.congr (h : TrackerSound s) (e : t.tracker = s.tracker) : TrackerSound t := by
  unfold TrackerSound
  rw [e]
  exact h

theorem ControlSound.steady (h : ControlSound s) (g : Steady s t) (e : t.tracker = s.tracker) : ControlSound t :=
  ⟨h.1.congr e, h.2.steady g⟩

theorem ControlSound.noted (h : ControlSound s) (g : Noted s t) : ControlSound t := h.steady (.of_noted g) g.tracker

theorem ControlSound.reported (h : ControlSound s) (g : Reported s t) : ControlSound t := h.noted (.of_reported g)

theorem ControlSound.run (h : ControlSound s) (g : UnitsRun s t) : ControlSound t := h.steady (.of_run g) g.reach.tracker

/-- Every channel dark, with nothing in its lane. -/
def AllStill (s : State) : Prop := ∀ c : Chan, s.units[c].ctx = .dark ∧ s.units[c].lane = []

theorem AllStill.listeningSound (h : AllStill s) : ListeningSound s :=
  fun c => ⟨fun hbright => absurd (h c).1 hbright, fun _ => (h c).2⟩

theorem TrackerSound.of_initial (h : s.tracker = .initial) : TrackerSound s := by
  rw [TrackerSound, h]
  refine ⟨nofun, fun _ _ _ _ h => (nomatch h), fun k h => ?_, nofun⟩
  simp [Tracker.initial] at h

/-! ## Entry to HALTED (R165) -/

theorem enterHalted_unit (s : State) (c : Chan) : (enterHalted s).units[c] = darkUnit s.units[c] := by
  rw [enterHalted_units, Fin.getElem_fin, mapVec_getElem]
  rfl

theorem enterHalted_controlSound (s : State) : ControlSound (enterHalted s) := by
  refine ⟨.of_initial (enterHalted_tracker s), ?_, AllStill.listeningSound fun c => ?_⟩
  · rw [PhaseSound, enterHalted_controller, enterHalted_tracker]
    refine ⟨?_, ?_, ?_, ?_, fun _ => rfl, nofun, fun _ => ⟨rfl, rfl⟩⟩
    all_goals simp
  · rw [enterHalted_unit]
    exact ⟨rfl, rfl⟩

theorem ControlSound.reportFault (h : ControlSound s) (code : FaultCode) (sel : Option Nat) :
    ControlSound (reportFault code sel s) := by
  rcases reportFault_cases code sel s with hr | ⟨f, -, e⟩
  · exact h.reported hr
  · rw [e]
    exact enterHalted_controlSound _

end

end Sys2Proof.Machine

/-! # Tracker, phase and contexts across SAMPLE and SETTLE frames -/

namespace Sys2Proof.Machine

section
variable {s t : State} {b : Tick} {k : Card}

/-! ## SAMPLE frames (R7) -/

theorem sampleVerdict_ahead {last expected : Option Tick} {start n : Nat}
    (h : sampleVerdict last expected start n ≠ .overlap) (hb : last = some b) : b ≤ start + n := by
  by_contra hlow
  exact h (sampleVerdict_overlap (.inl ⟨b, hb, Nat.le_of_not_le hlow⟩))

theorem Steady.advanceCard (k : Card) (e : Tick) (s : State) : Steady s (advanceCard k e s) := .onTracker s ⟨_, _, rfl⟩

theorem ControlSound.advanceCard {e : Tick} (h : ControlSound s) (he : ∀ b, s.tracker.last = some b → b ≤ e) :
    ControlSound (advanceCard k e s) := by
  obtain ⟨⟨hsettled, hexpected, hlag, hpass⟩, hcontexts⟩ := h
  refine ⟨⟨hsettled, fun j e' b hj hb => ?_, fun j hj => ?_, hpass⟩, hcontexts.steady (.advanceCard k e s)⟩
  · simp only [Machine.advanceCard, State.onTracker_tracker, Fin.getElem_fin, Vector.getElem_set] at hj
    split at hj
    · cases hj
      exact he b hb
    · exact hexpected j e' b hj hb
  · simp only [Machine.advanceCard, State.onTracker_tracker, Fin.getElem_fin, Vector.getElem_set] at hj ⊢
    split at hj
    · cases hj
    · next hne =>
      rw [if_neg hne]
      exact hlag j hj

theorem truncateCard_reach (k : Card) (s : State) : UnitReach s (truncateCard k s) := UnitReach.moves.truncateCard k s

theorem ControlSound.handSets (h : ControlSound s) (k : Card) (e : Tick) (sets : List (List Int)) :
    ControlSound (handSets k e sets s) := h.steady (.handSets k e sets s) (UnitReach.moves.handSets k e sets s).tracker

theorem ControlSound.trackSample (h : ControlSound s) (x : SampleFrame) : ControlSound (trackSample x s) := by
  have hdrained : ControlSound (drainCard x.card s) := h.run (.drainCard x.card s)
  have htracker : (drainCard x.card s).tracker = s.tracker := (UnitsRun.drainCard x.card s).reach.tracker
  unfold Machine.trackSample
  split
  · exact h
  · split
    · exact h.reportFault _ _
    · next hverdict =>
      have hahead (b) (hb : (drainCard x.card s).tracker.last = some b) : b ≤ x.start + x.sets.length :=
        sampleVerdict_ahead (by rw [hverdict]; nofun) (htracker ▸ hb)
      exact (hdrained.advanceCard hahead).handSets _ _ _
    · next hverdict =>
      have htruncated := hdrained.steady (.truncateCard x.card _) (truncateCard_reach x.card _).tracker
      have hahead (b) (hb : (truncateCard x.card (drainCard x.card s)).tracker.last = some b) : b ≤ x.start + x.sets.length :=
        sampleVerdict_ahead (by rw [hverdict]; nofun) (htracker ▸ (truncateCard_reach x.card _).tracker ▸ hb)
      have hreported := (htruncated.advanceCard (k := x.card) hahead).reportFault .tickGap (some x.card.val)
      rw [sampleGap_eq]
      split
      · exact hreported
      · exact hreported.handSets _ _ _

/-! ## The lag check (R11) -/

/-- As `s` but for expected ticks and lag flags, or halted and sound. -/
def LagSteady (s t : State) : Prop := Steady s t ∨ (t.faults.halted = true ∧ ControlSound t)

theorem lagCard_steady (b : Tick) (k : Card) (s : State) : LagSteady s (lagCard b s k) := by
  rw [lagCard_eq]
  split
  · exact .inl (.refl s)
  · split
    · have hlagged : Steady s (laggedCard b k s) := (Steady.truncateCard k s).trans (.onTracker _ ⟨_, _, rfl⟩)
      rcases reportFault_cases .laneLag (some k.val) (laggedCard b k s) with hr | ⟨f, -, e⟩
      · exact .inl (hlagged.trans (.of_reported hr))
      · rw [e]
        exact .inr ⟨by rw [enterHalted_faults], enterHalted_controlSound _⟩
    · exact .inl (.refl s)

theorem lagCheck_steady (b : Tick) (s : State) : LagSteady s (lagCheck b s) := by
  have hall (l : List Card) : ∀ s, LagSteady s (l.foldl (lagCard b) s) := by
    induction l with
    | nil => exact fun s => .inl (.refl s)
    | cons k l ih =>
      intro s
      rw [List.foldl_cons]
      rcases lagCard_steady b k s with hk | ⟨hhalted, hsound⟩
      · exact (ih _).imp_left hk.trans
      · rw [foldl_lagCard_halted l hhalted]
        exact .inr ⟨hhalted, hsound⟩
  exact hall allCards s

/-- The tracker that the lag check of a frame above B leaves. -/
theorem lagCheck_trackerSound (hrun : (lagCheck b s).faults.halted = false) (hsteady : Steady s (lagCheck b s))
    (hlast : s.tracker.last = some b) (hsettled : ∀ t, s.tracker.settled = some t → t ≤ b)
    (hlag : ∀ k : Card, s.tracker.lag[k] = true → (s.tracker.expected[k]).isSome = true)
    (hpass : s.tracker.passInProgress = true → s.tracker.settled.isSome = true) : TrackerSound (lagCheck b s) := by
  obtain ⟨e, l, htracker⟩ := hsteady.tracker
  have hlast' : (lagCheck b s).tracker.last = some b := by rw [htracker]; exact hlast
  have hsettled' : (lagCheck b s).tracker.settled = s.tracker.settled := by rw [htracker]
  refine ⟨fun t ht => ⟨b, hlast', hsettled t (hsettled'.symm.trans ht)⟩, fun k e b' he hb' => ?_, fun k hk => ?_,
    fun hp => ?_⟩
  · cases hlast'.symm.trans hb'
    by_cases hlags : ∃ e, s.tracker.expected[k] = some e ∧ e < b
    · rw [((lagCheck_running hrun k).lagging hlags).expected] at he
      cases he
      exact Nat.le_refl _
    · have habreast : ∀ e, s.tracker.expected[k] = some e → b ≤ e := fun e he => Nat.not_lt.mp fun hlt => hlags ⟨e, he, hlt⟩
      rw [((lagCheck_running hrun k).abreast habreast).expected] at he
      exact habreast e he
  · by_cases hlags : ∃ e, s.tracker.expected[k] = some e ∧ e < b
    · rw [((lagCheck_running hrun k).lagging hlags).expected]
      rfl
    · have hleft := (lagCheck_running hrun k).abreast fun e he => Nat.not_lt.mp fun hlt => hlags ⟨e, he, hlt⟩
      rw [hleft.expected]
      exact hlag k (hleft.lag ▸ hk)
  · rw [htracker] at hp ⊢
    exact hpass hp

/-! ## SETTLE frames (R10 to R14) -/

theorem ControlSound.beginPass (h : ControlSound s) (hrun : s.faults.halted = false) (hlast : s.tracker.last = some b) :
    ControlSound (beginPass b s) := by
  obtain ⟨⟨hsettled, hexpected, hlag, -⟩, ⟨hmuted, hfrom, hhold, hramp, hidle, hstalled, -⟩, hlistening⟩ := h
  refine ⟨⟨fun t ht => ⟨b, hlast, ?_⟩, hexpected, hlag, fun _ => rfl⟩,
    ⟨hmuted, hfrom, hhold, hramp, hidle, hstalled, fun hh => absurd (hrun.symm.trans hh) nofun⟩, hlistening⟩
  have ht : some (nextSettled s.tracker.settled b (dmaxOf s.active.channels)) = some t := ht
  cases ht
  rw [nextSettled_eq]
  refine Nat.max_le.mpr ⟨?_, Nat.sub_le ..⟩
  cases hs : s.tracker.settled with
  | none => exact Nat.zero_le _
  | some t =>
    obtain ⟨b', hb', hle⟩ := hsettled t hs
    cases hlast.symm.trans hb'
    exact hle

/-- The lag check of a frame above B, and the pass that begins unless it has halted the part. -/
theorem lagChecked_controlSound {u : State} (h : ControlSound s) (hrun : s.faults.halted = false)
    (hlast : ∀ l, s.tracker.last = some l → l ≤ b)
    (hu : Reported (s.onTracker fun t => { t with last := some b }) u) :
    ControlSound (if (lagCheck b u).faults.halted then lagCheck b u else Machine.beginPass b (lagCheck b u)) := by
  have hcontexts : ContextsSound u :=
    ContextsSound.steady (s := s.onTracker fun t => { t with last := some b }) h.2 (.of_reported hu)
  have htracker : u.tracker = { s.tracker with last := some b } := hu.tracker
  have hulast : u.tracker.last = some b := by rw [htracker]
  rcases lagCheck_steady b u with hsteady | ⟨hhalted, hsound⟩
  · have hrun' : (lagCheck b u).faults.halted = false := hsteady.halted.trans (hu.halted.trans hrun)
    rw [if_neg (by simp [hrun'])]
    refine ControlSound.beginPass ⟨?_, hcontexts.steady hsteady⟩ hrun' ?_
    · obtain ⟨hsettled, hexpected, hlag, hpass⟩ := h.1
      refine lagCheck_trackerSound hrun' hsteady hulast (fun t ht => ?_) ?_ ?_
      · obtain ⟨l, hl, hle⟩ := hsettled t (by rw [htracker] at ht; exact ht)
        exact Nat.le_trans hle (hlast l hl)
      · rw [htracker]; exact hlag
      · rw [htracker]; exact hpass
    · obtain ⟨e, l, ht⟩ := hsteady.tracker
      rw [ht]
      exact hulast
  · rw [if_pos hhalted]
    exact hsound

theorem ControlSound.settleAccepted (h : ControlSound s) (hrun : s.faults.halted = false)
    (hlast : ∀ l, s.tracker.last = some l → l ≤ b) : ControlSound (settleAccepted b s) := by
  have drained := UnitsRun.drainAll s
  rw [settleAccepted_eq]
  exact lagChecked_controlSound (h.run drained) (drained.reach.halted.trans hrun) (by rw [drained.reach.tracker]; exact hlast)
    (.settleTaken _)

theorem ControlSound.running (h : ControlSound s) (hphase : s.controller.phase ≠ .idle) : s.faults.halted = false := by
  obtain ⟨-, ⟨-, -, -, -, -, -, hhalted⟩, -⟩ := h
  by_contra hh
  exact hphase (hhalted (by simpa using hh)).1

theorem ControlSound.trackSettle (h : ControlSound s) (b : Tick) : ControlSound (trackSettle b s) := by
  unfold Machine.trackSettle
  split
  · exact h.reported (.settleTaken s)
  · next hphase =>
    split
    · split
      · exact h
      · exact h.reportFault _ _
    · split
      · exact h.reportFault _ _
      · next hordered =>
        refine h.settleAccepted (h.running hphase) fun l hl => ?_
        have : ¬b ≤ l := by simpa [settleDisordered, hl] using hordered
        exact Nat.le_of_not_le this

/-- After the controller's stage: sound when halted, and sound once the pass is over when not. -/
def StageSound (s : State) : Prop :=
  (s.faults.halted = true → ControlSound s) ∧ (s.faults.halted = false → ControlSound (passOver s))

theorem ControlSound.stageSound (h : ControlSound s) : StageSound s := by
  refine ⟨fun _ => h, fun hrun => ?_⟩
  obtain ⟨⟨hsettled, hexpected, hlag, -⟩, ⟨hmuted, hfrom, hhold, hramp, hidle, hstalled, -⟩, hlistening⟩ := h
  exact ⟨⟨hsettled, hexpected, hlag, nofun⟩,
    ⟨hmuted, hfrom, hhold, hramp, hidle, hstalled, fun hh => absurd (hrun.symm.trans hh) nofun⟩, hlistening⟩

theorem StageSound.endPass (h : StageSound s) : ControlSound (endPass s) := by
  obtain ⟨hhalted, hover⟩ := h
  cases hrun : s.faults.halted with
  | true =>
    rw [endPass_halted hrun]
    exact hhalted hrun
  | false =>
    rw [endPass_running hrun]
    split
    · exact hover hrun
    · exact (hover hrun).trackSettle _

end

end Sys2Proof.Machine

/-! # Tracker, phase and contexts across the stages of a pass -/

namespace Sys2Proof.Machine

/-- The relations of the phase within the controller (R15, R91, R94). -/
structure PhaseOk (c : Controller) : Prop where
  muted : c.phase = .muted ↔ c.mutedFrom.isSome = true
  listened : ∀ p, c.mutedFrom = some p → listeningPhase p = true
  hold : c.phase = .hold ↔ c.hold.isSome = true
  ramp : (c.phase = .ramp ∨ c.mutedFrom = some .ramp) ↔ c.ramp.isSome = true
  idle : c.phase = .idle → c.queue = []
  stalled : c.stalled = true → c.queue ≠ []

theorem PhaseSound.phaseOk {s : State} (h : PhaseSound s) : PhaseOk s.controller := by
  obtain ⟨hmuted, hfrom, hhold, hramp, hidle, hstalled, -⟩ := h
  exact ⟨hmuted, hfrom, hhold, hramp, hidle, hstalled⟩

theorem PhaseOk.phaseSound {s : State} (h : PhaseOk s.controller) (hrun : s.faults.halted = false) : PhaseSound s :=
  ⟨h.muted, h.listened, h.hold, h.ramp, h.idle, h.stalled, fun hh => absurd (hrun.symm.trans hh) nofun⟩

namespace PhaseOk
variable {c d : Controller}

theorem notMuted (h : PhaseOk c) (hp : c.phase ≠ .muted) : c.mutedFrom = none :=
  Option.not_isSome_iff_eq_none.mp fun hs => hp (h.muted.mpr hs)

theorem noHold (h : PhaseOk c) (hp : c.phase ≠ .hold) : c.hold = none :=
  Option.not_isSome_iff_eq_none.mp fun hs => hp (h.hold.mpr hs)

theorem noRamp (h : PhaseOk c) (hp : c.phase ≠ .ramp) (hmuted : c.phase ≠ .muted) : c.ramp = none :=
  Option.not_isSome_iff_eq_none.mp fun hs => by
    rcases h.ramp.mpr hs with hr | hr
    · exact hp hr
    · exact nomatch (h.notMuted hmuted).symm.trans hr

theorem running (h : PhaseOk c) (hq : c.queue ≠ []) : c.phase ≠ .idle := fun hp => hq (h.idle hp)

/-- Outside IDLE, the queue does not matter to the phase. -/
theorem queued (h : PhaseOk c) (hp : d.phase = c.phase) (hm : d.mutedFrom = c.mutedFrom) (hh : d.hold = c.hold)
    (hr : d.ramp = c.ramp) (hidle : d.phase = .idle → d.queue = []) (hs : d.stalled = true → d.queue ≠ []) : PhaseOk d := by
  refine ⟨?_, ?_, ?_, ?_, hidle, hs⟩
  · rw [hp, hm]; exact h.muted
  · rw [hm]; exact h.listened
  · rw [hp, hh]; exact h.hold
  · rw [hp, hm, hr]; exact h.ramp

/-- A phase in which neither a ramp nor a hold is in progress. -/
theorem plain (hp : c.phase ≠ .muted ∧ c.phase ≠ .hold ∧ c.phase ≠ .ramp) (hm : c.mutedFrom = none) (hh : c.hold = none)
    (hr : c.ramp = none) (hidle : c.phase = .idle → c.queue = []) (hs : c.stalled = true → c.queue ≠ []) : PhaseOk c := by
  obtain ⟨hmuted, hhold, hramp⟩ := hp
  exact ⟨by simp [hmuted, hm], by simp [hm], by simp [hhold, hh], by simp [hramp, hm, hr], hidle, hs⟩

end PhaseOk

section
variable {s t u : State}

/-- Sound, and not halted. -/
def Live (s : State) : Prop := ControlSound s ∧ s.faults.halted = false

namespace Live

theorem phaseOk (h : Live s) : PhaseOk s.controller := h.1.2.1.phaseOk

theorem noted (h : Live s) (g : Noted s t) : Live t := ⟨h.1.noted g, g.halted.trans h.2⟩

theorem reported (h : Live s) (g : Reported s t) : Live t := h.noted (.of_reported g)

/-- Sound again with the same tracker, once phase and contexts are. -/
theorem become (h : Live s) (htracker : t.tracker = s.tracker) (hhalted : t.faults.halted = s.faults.halted)
    (hphase : PhaseOk t.controller) (hlistening : ListeningSound t) : Live t :=
  have hrun := hhalted.trans h.2
  ⟨⟨h.1.1.congr htracker, hphase.phaseSound hrun, hlistening⟩, hrun⟩

/-- The contexts stay sound while the phase stays, or listens after. -/
theorem listening (h : Live s) (hhalted : t.faults.halted = s.faults.halted) (hunits : t.units = s.units)
    (hactive : t.active = s.active)
    (hphase : listeningPhase t.controller.phase = true ∨ t.controller.phase = s.controller.phase) : ListeningSound t := by
  intro c
  obtain ⟨hbright, hdark⟩ := h.1.2.2 c
  rw [hunits, hactive, hhalted]
  refine ⟨fun hctx => ?_, hdark⟩
  obtain ⟨hrun, hlistens, hmode⟩ := hbright hctx
  exact ⟨hrun, hphase.elim id fun e => e ▸ hlistens, hmode⟩

end Live

/-! ## Close reports (R122 to R124) -/

theorem Noted.placeMoves : PlaceMoves Noted where
  refl := refl
  trans := trans
  offer := offer
  raise c s := of_reported (.raise c s)
  counters f s := of_reported (.onCounters f s)
  told _ _ _ _ _ := ⟨rfl, rfl, rfl, rfl, rfl, rfl, rfl, rfl, rfl, rfl⟩
  landed _ := ⟨rfl, rfl, rfl, rfl, rfl, rfl, rfl, rfl, rfl, rfl⟩
  taken _ := ⟨rfl, rfl, rfl, rfl, rfl, rfl, rfl, rfl, rfl, rfl⟩
  join _ _ _ _ := ⟨rfl, rfl, rfl, rfl, rfl, rfl, rfl, rfl, rfl, rfl⟩
  opened _ _ _ _ := ⟨rfl, rfl, rfl, rfl, rfl, rfl, rfl, rfl, rfl, rfl⟩
  free _ _ := ⟨rfl, rfl, rfl, rfl, rfl, rfl, rfl, rfl, rfl, rfl⟩

theorem rupture_still (r : CloseReport) (s : State) : AllStill (rupture r s) := fun c => by
  rw [rupture_units]
  exact ⟨rfl, rfl⟩

theorem rupture_mutedFrom (r : CloseReport) (s : State) : (rupture r s).controller.mutedFrom = s.controller.mutedFrom := by
  rw [rupture_eq, (stopAll_reach ..).mutedFrom, (changePhase_reach .burst _).mutedFrom]
  exact (ruptureTold_reported r s).mutedFrom

theorem rupture_reach (r : CloseReport) (s : State) : StageReach s (rupture r s) := StageReach.moves.rupture r s

theorem Live.rupture (h : Live s) (hphase : rupturePhase s.controller.phase = true) (r : CloseReport) :
    Live (rupture r s) := by
  have hok := h.phaseOk
  have hmuted : s.controller.phase ≠ .muted := fun e => by rw [e] at hphase; cases hphase
  have reach := rupture_reach r s
  obtain ⟨hburst, -, -, hramp, hhold, hqueue⟩ := rupture_controller r s hok.noHold fun hp => hok.noRamp hp hmuted
  refine h.become reach.tracker reach.halted (.plain (by simp [hburst]) ?_ hhold hramp (by simp [hburst]) ?_)
    (rupture_still r s).listeningSound
  · rw [rupture_mutedFrom]
    exact hok.notMuted hmuted
  · rw [reach.stalled, hqueue]
    exact hok.stalled

/-! ## The assembler's stage and the flush -/

/-- What notes and close reports keep. -/
structure CloseKept (P : State → Prop) : Prop where
  noted : ∀ {s t}, Noted s t → P s → P t
  close : ∀ r {s}, P s → P (closeReport r s)

theorem foldl_keeps {P : State → Prop} {α : Type} {f : State → α → State} (h : ∀ a s, P s → P (f s a)) (l : List α)
    (hs : P s) : P (l.foldl f s) := by
  induction l generalizing s with
  | nil => exact hs
  | cons a l ih => exact ih (h a s hs)

namespace CloseKept
variable {P : State → Prop} (k : CloseKept P)
include k

theorem closeEvent (i : Fin 8) (e : Event) (reason : CloseReason) (hs : P s) : P (closeEvent i e reason s) :=
  k.noted (Noted.placeMoves.free i _) (k.close _ (k.noted (.offer _ s) hs))

theorem assemblerStage (hs : P s) : P (assemblerStage s) := by
  unfold Machine.assemblerStage
  have hplaced := k.noted (Noted.placeMoves.takeEntries (settledEntries (passTick s) s) s) hs
  refine k.noted (Noted.placeMoves.deliverNotices _) (foldl_keeps (fun i s hs => ?_) _ hplaced)
  unfold examineSlot
  split
  · exact hs
  · split
    · exact hs
    · exact k.closeEvent _ _ _ hs

theorem flush (hs : P s) : P (flush s) := by
  unfold Machine.flush
  refine foldl_keeps (fun i s hs => ?_) _ (k.noted (Noted.placeMoves.takeEntries _ s) hs)
  unfold flushSlot
  split
  · exact hs
  · exact k.closeEvent _ _ _ hs

end CloseKept

theorem Live.closeKept : CloseKept Live where
  noted g h := h.noted g
  close r s h := by
    rcases closeReport_cases r s with hn | ⟨u, hu, hphase, e⟩
    · exact h.noted hn
    · rw [e]
      exact (h.noted hu).rupture (by rw [hu.phase]; exact hphase) r

theorem AllStill.closeKept : CloseKept AllStill where
  noted g h := fun c => by rw [g.units]; exact h c
  close r s h := by
    rcases closeReport_cases r s with hn | ⟨u, -, -, e⟩
    · exact fun c => by rw [hn.units]; exact h c
    · rw [e]
      exact rupture_still r u

end

end Sys2Proof.Machine

/-! # Tracker, phase and contexts across the orders -/

namespace Sys2Proof.Machine

section
variable {s t u : State} {new : Phase} {q : QueuedOrder} {rest : List QueuedOrder} {tag : Byte}

theorem Live.answer (h : Live s) (a : Answer) : Live (answer a s) := h.reported (.answer a s)

theorem Live.popHead (h : Live s) (hq : s.controller.queue = q :: rest) : Live (popHead s) := by
  have hok := h.phaseOk
  rw [popHead_eq hq]
  refine h.become rfl rfl (hok.queued rfl rfl rfl rfl ?_ nofun) (h.listening rfl rfl rfl (.inr rfl))
  exact fun hidle => absurd hidle (hok.running (by rw [hq]; nofun))

/-! ## The next load phase (R97, R98) -/

/-- `c` has entered the phase `new` from `s`, with no ramp and no hold as yet. -/
structure Entered (new : Phase) (s : State) (c : Controller) : Prop where
  phase : c.phase = new
  mutedFrom : c.mutedFrom = none
  ramp : c.ramp = none
  hold : c.hold = none
  queue : c.queue = s.controller.queue
  stalled : c.stalled = s.controller.stalled

theorem changePhase_entered (h : PhaseOk s.controller) (hmuted : s.controller.phase ≠ .muted) (hnew : new ≠ .muted) :
    Entered new s (changePhase new s).controller := by
  have changed := changePhase_reach new s
  refine ⟨changed.phase, changed.mutedFrom.trans (h.notMuted hmuted), changed.ramp.trans ?_, changed.hold.trans ?_,
    changed.queue, changed.stalled⟩
  · by_cases hramp : s.controller.phase = .ramp
    · exact if_pos ⟨hramp, hnew⟩
    · exact (if_neg fun hc => hramp hc.1).trans (h.noRamp hramp hmuted)
  · by_cases hhold : s.controller.phase = .hold
    · exact if_pos hhold
    · exact (if_neg hhold).trans (h.noHold hhold)

/-- An order that enters a load phase, and what it then begins. -/
theorem Live.enters {f : Controller → Controller} (h : Live s) (hmuted : s.controller.phase ≠ .muted)
    (hnew : listeningPhase new = true) (hphase : ∀ c, (f c).phase = c.phase)
    (hok : ∀ c, Entered new s c → PhaseOk (f c)) : Live ((changePhase new s).onController f) := by
  have changed := changePhase_reach new s
  have entered := changePhase_entered h.phaseOk hmuted (new := new) fun e => by rw [e] at hnew; cases hnew
  refine h.become changed.tracker changed.halted (hok _ entered)
    (h.listening changed.halted changed.units changed.active (.inl ?_))
  rw [State.onController_controller, hphase, entered.phase]
  exact hnew

theorem Live.rampTaken (h : Live s) (hmuted : s.controller.phase ≠ .muted) (tag : Byte) : Live (rampTaken tag s) := by
  refine Live.answer ?_ _
  rw [beginRamp_eq]
  refine h.enters hmuted rfl (fun _ => rfl) fun c e => ?_
  exact ⟨by simp [e.phase, e.mutedFrom], by simp [e.mutedFrom], by simp [e.phase, e.hold], by simp [e.phase],
    by simp [e.phase], by simpa [e.queue, e.stalled] using h.phaseOk.stalled⟩

theorem Live.holdTaken (h : Live s) (hmuted : s.controller.phase ≠ .muted) (tag : Byte) : Live (holdTaken tag s) := by
  refine Live.answer ?_ _
  rw [beginHold_eq]
  refine h.enters hmuted rfl (fun _ => rfl) fun c e => ?_
  exact ⟨by simp [e.phase, e.mutedFrom], by simp [e.mutedFrom], by simp [e.phase], by simp [e.phase, e.mutedFrom, e.ramp],
    by simp [e.phase], by simpa [e.queue, e.stalled] using h.phaseOk.stalled⟩

theorem Live.unloadTaken (h : Live s) (hmuted : s.controller.phase ≠ .muted) (tag : Byte) : Live (unloadTaken tag s) := by
  refine Live.answer ?_ _
  refine h.enters (new := .unload) hmuted rfl (by intro _; rfl) fun c e => ?_
  exact .plain (by simp [e.phase]) e.mutedFrom e.hold e.ramp (by simp [e.phase])
    (by simpa [e.queue, e.stalled] using h.phaseOk.stalled)

/-! ## MUTE and UNMUTE (R99, R100) -/

theorem Live.muteTaken (h : Live s) (hlistens : listeningPhase s.controller.phase = true) (tag : Byte) :
    Live (muteTaken tag s) := by
  have hok := h.phaseOk
  have hmuted : s.controller.phase ≠ .muted := fun e => by rw [e] at hlistens; cases hlistens
  refine Live.answer ?_ _
  have changed := changePhase_reach .muted (s.onController fun c => { c with mutedFrom := some s.controller.phase })
  generalize changePhase .muted (s.onController fun c => { c with mutedFrom := some s.controller.phase }) = m at changed ⊢
  have stopped := stopAll_reach s.controller.phase false m
  have hphase : m.controller.phase = .muted := changed.phase
  have hfrom : m.controller.mutedFrom = some s.controller.phase := changed.mutedFrom
  have hramp : m.controller.ramp = s.controller.ramp := changed.ramp.trans (if_neg fun hc => hc.2 rfl)
  have hhold : m.controller.hold = none := by
    refine changed.hold.trans ?_
    by_cases hp : s.controller.phase = .hold
    · exact if_pos hp
    · exact (if_neg hp).trans (hok.noHold hp)
  have hqueue : m.controller.queue = s.controller.queue := changed.queue
  have hstalled : m.controller.stalled = s.controller.stalled := changed.stalled
  refine h.become (stopped.tracker.trans changed.tracker) (stopped.halted.trans changed.halted) ?_
    (AllStill.listeningSound fun c => by rw [stopAll_get]; exact ⟨rfl, rfl⟩)
  refine PhaseOk.queued (c := m.controller) ?_ stopped.phase stopped.mutedFrom stopped.hold stopped.ramp ?_ ?_
  · refine ⟨by simp [hphase, hfrom], by simpa [hfrom] using hlistens, by simp [hphase, hhold], ?_, by simp [hphase], ?_⟩
    · rw [hphase, hfrom, hramp, ← hok.ramp, hok.notMuted hmuted]
      simp
    · rw [hqueue, hstalled]
      exact hok.stalled
  · simp [stopped.phase, hphase]
  · rw [stopped.queue, stopped.stalled, hqueue, hstalled]
    exact hok.stalled

/-- Waking keeps the contexts sound in a listening phase. -/
theorem wakes_listeningSound {f : Vector ChannelUnit 32 → Vector ChannelUnit 32} (hstill : AllStill s)
    (hrun : s.faults.halted = false) (hphase : listeningPhase s.controller.phase = true)
    (hf : ∀ c : Chan, (f s.units)[c] = woken s.active c s.units[c]) : ListeningSound (s.onUnits f) := by
  intro c
  obtain ⟨hctx, hlane⟩ := hstill c
  rw [State.onUnits_units, hf, woken_eq]
  cases hmode : modeListens s.active.channels[c].mode with
  | true =>
    rw [if_pos ⟨rfl, hctx⟩]
    exact ⟨fun _ => ⟨hrun, hphase, hmode⟩, nofun⟩
  | false =>
    rw [if_neg (by simp)]
    exact ⟨fun h => absurd hctx h, fun _ => hlane⟩

theorem Live.still (h : Live s) (hphase : listeningPhase s.controller.phase = false) : AllStill s := by
  intro c
  obtain ⟨hbright, hdark⟩ := h.1.2.2 c
  have hctx : s.units[c].ctx = .dark := by
    by_contra hne
    rw [(hbright hne).2.1] at hphase
    cases hphase
  exact ⟨hctx, hdark hctx⟩

theorem Live.unmuteTaken (h : Live s) (hmuted : s.controller.phase = .muted) (tag : Byte) : Live (unmuteTaken tag s) := by
  have hok := h.phaseOk
  obtain ⟨back, hback⟩ := Option.isSome_iff_exists.mp (hok.muted.mp hmuted)
  have hlistens := hok.listened back hback
  have hne : back ≠ .muted ∧ back ≠ .idle := by
    constructor
    all_goals
      rintro rfl
      cases hlistens
  have changed := changePhase_reach back s
  have hstill : AllStill s := h.still (by rw [hmuted]; rfl)
  rw [unmuteTaken_eq tag hback]
  generalize changePhase back s = m at changed ⊢
  have hphase : m.controller.phase = back := changed.phase
  have hramp : m.controller.ramp = s.controller.ramp := changed.ramp.trans (if_neg fun hc => by simp [hmuted] at hc)
  have hhold : m.controller.hold = none :=
    changed.hold.trans ((if_neg (by simp [hmuted])).trans (hok.noHold (by simp [hmuted])))
  refine Live.answer ?_ _
  refine h.become changed.tracker changed.halted ⟨?_, fun _ hp => (nomatch hp), ?_, ?_, ?_, ?_⟩ ?_
  · simp [hphase, hne.1]
  · by_cases hb : back = .hold <;> simp [hphase, hb, hhold]
  · simp only [State.onUnits_controller, State.onController_controller, hphase, hramp, ← hok.ramp, hmuted, hback]
    simp
  · simp [hphase, hne.2]
  · have hqueue : m.controller.queue = s.controller.queue := changed.queue
    have hstalled : m.controller.stalled = s.controller.stalled := changed.stalled
    simpa [hqueue, hstalled] using hok.stalled
  · refine wakes_listeningSound (fun c => ?_) (changed.halted.trans h.2) (by simpa [hphase] using hlistens) fun c => ?_
    · have hunits : m.units = s.units := changed.units
      show m.units[c].ctx = .dark ∧ m.units[c].lane = []
      rw [hunits]
      exact hstill c
    · rw [Fin.getElem_fin, mapVec_getElem, Vector.getElem_finRange]
      rfl

end

end Sys2Proof.Machine

/-! # Tracker, phase and contexts across SWAP, FINISH and the pass -/

namespace Sys2Proof.Machine

section
variable {s t u : State} {q : QueuedOrder} {rest : List QueuedOrder} {name : SwapName}

/-! ## SWAP (R101, R135) -/

/-- A unit that is dark and still, or belongs to a channel that listens in a listening phase (R18). -/
def UnitListens (ph : Phase) (listens : Bool) (v : ChannelUnit) : Prop :=
  (v.ctx ≠ .dark → listeningPhase ph = true ∧ listens = true) ∧ (v.ctx = .dark → v.lane = [])

theorem listeningSound_iff (hrun : s.faults.halted = false) : ListeningSound s ↔
    ∀ c : Chan, UnitListens s.controller.phase (modeListens s.active.channels[c].mode) s.units[c] := by
  simp only [ListeningSound, UnitListens, hrun, true_and]

theorem UnitListens.directed {ph : Phase} {listened : Bool} {v : ChannelUnit} (h : UnitListens ph listened v)
    (listens : Bool) : UnitListens ph listens (directedUnit listened listens ph v) := by
  obtain ⟨hbright, hdark⟩ := h
  cases listened with
  | true =>
    cases listens with
    | true => exact ⟨hbright, hdark⟩
    | false => exact ⟨fun hctx => absurd rfl hctx, fun _ => rfl⟩
  | false =>
    have hctx : v.ctx = .dark := by
      by_contra hne
      exact nomatch (hbright hne).2
    cases listens with
    | false => exact ⟨hbright, hdark⟩
    | true =>
      cases hph : listeningPhase ph with
      | true =>
        rw [directedUnit_wakes hph, readyUnit, if_pos hctx]
        exact ⟨fun _ => ⟨hph, rfl⟩, nofun⟩
      | false =>
        rw [directedUnit_rests hph]
        exact ⟨fun hne => absurd hctx hne, hdark⟩

theorem Live.stageSound (h : Live s) : StageSound s := h.1.stageSound

theorem HaltedFrom.controlSound (h : HaltedFrom s t) : ControlSound t := by
  obtain ⟨w, -, rfl⟩ := h
  exact enterHalted_controlSound w

theorem swapDirectives_reach (before : Vector ChannelEntry 32) (s : State) : UnitReach s (swapDirectives before s) :=
  UnitReach.moves.foldl (fun c u => swapDirective_reach before u c) allChans s

/-- Handled tables and their directives. -/
theorem Live.directed (h : Live s) (hu : Swapped s u) : Live (swapDirectives s.active.channels u) := by
  have reach := swapDirectives_reach s.active.channels u
  have hhalted := reach.halted.trans hu.halted
  have hphase : (swapDirectives s.active.channels u).controller.phase = s.controller.phase := reach.phase.trans hu.phase
  refine h.become (reach.tracker.trans hu.tracker) hhalted ?_ ?_
  · refine h.phaseOk.queued hphase (reach.mutedFrom.trans hu.mutedFrom) (reach.hold.trans hu.hold)
      (reach.ramp.trans hu.ramp) ?_ ?_
    · rw [hphase, reach.queue, hu.queue]
      exact h.phaseOk.idle
    · rw [reach.queue, hu.queue, reach.stalled, hu.stalled]
      exact h.phaseOk.stalled
  · rw [listeningSound_iff (hhalted.trans h.2)]
    intro c
    rw [swapDirectives_get, reach.active, hphase, hu.units, hu.phase]
    exact ((listeningSound_iff h.2).mp h.1.2.2 c).directed _

theorem Live.swapOrder (h : Live s) (name : SwapName) (tag : Byte) :
    Live (swapOrder name tag s) ∨
    ∃ u, HaltedFrom s u ∧ Machine.swapOrder name tag s = Machine.answer (orderAnswer tag .cancelled) u := by
  rcases swapOrder_cases name tag h.2 with ⟨u, code, hu, e⟩ | hhalted
  · rw [e]
    exact .inl ((h.directed hu).answer _)
  · exact .inr hhalted

theorem Live.swapOrder_sound (h : Live s) (name : SwapName) (tag : Byte) : ControlSound (Machine.swapOrder name tag s) := by
  rcases h.swapOrder name tag with hlive | ⟨u, hu, e⟩
  · exact hlive.1
  · rw [e]
    exact hu.controlSound.reported (.answer _ _)

/-! ## FINISH (R103) -/

theorem Live.stopAll (h : Live s) (ph : Phase) (b : Bool) : Live (stopAll ph b s) := by
  have reach := stopAll_reach ph b s
  refine h.become reach.tracker reach.halted
    (h.phaseOk.queued reach.phase reach.mutedFrom reach.hold reach.ramp ?_ ?_)
    (AllStill.listeningSound fun c => by rw [stopAll_get]; exact ⟨rfl, rfl⟩)
  · rw [reach.phase, reach.queue]
    exact h.phaseOk.idle
  · rw [reach.stalled, reach.queue]
    exact h.phaseOk.stalled

theorem finishedFrom_controller (before : Phase) (rest : List QueuedOrder) (s : State) :
    (finishedFrom before rest s).controller.phase = .idle ∧ (finishedFrom before rest s).controller.mutedFrom = none ∧
    (finishedFrom before rest s).controller.hold = none ∧ (finishedFrom before rest s).controller.ramp = none ∧
    (finishedFrom before rest s).controller.queue = [] ∧ (finishedFrom before rest s).controller.stalled = false := by
  have cancelled := cancelledBehind_reported rest (summed before s)
  have summed : Reported (endBookkeeping s) (summed before s) := .offerRecord _ _
  have hended : (endBookkeeping s).controller.ramp = none ∧ (endBookkeeping s).controller.hold = none := by
    rw [endBookkeeping_eq]
    exact ⟨rfl, rfl⟩
  exact ⟨offerRecord_phase .., offerRecord_mutedFrom ..,
    (offerRecord_hold ..).trans (cancelled.hold.trans (summed.hold.trans hended.2)),
    (offerRecord_ramp ..).trans (cancelled.ramp.trans (summed.ramp.trans hended.1)),
    (offerRecord_queue ..).trans cancelled.queue, (offerRecord_stalled ..).trans cancelled.stalled⟩

theorem finishedFrom_units (before : Phase) (rest : List QueuedOrder) (s : State) :
    (finishedFrom before rest s).units = s.units := by
  refine (offerRecord_units ..).trans ((cancelledBehind_reported rest _).units.trans ((offerRecord_units ..).trans ?_))
  rw [endBookkeeping_eq]
  exact (Reported.offerSome _ s).units

theorem controlSound_over (htracker : (passOver s).tracker = .initial) (hok : PhaseOk s.controller)
    (hrun : s.faults.halted = false) (hstill : AllStill s) : ControlSound (passOver s) :=
  ⟨.of_initial htracker, PhaseOk.phaseSound (s := passOver s) hok hrun, AllStill.listeningSound (s := passOver s) hstill⟩

/-- What FINISH makes of a part whose channels are all dark is sound once the pass is over. -/
theorem finishedFrom_sound (before : Phase) (rest : List QueuedOrder) (hrun : s.faults.halted = false) (hstill : AllStill s) :
    ControlSound (passOver (finishedFrom before rest s)) := by
  obtain ⟨hphase, hmuted, hhold, hramp, hqueue, hstalled⟩ := finishedFrom_controller before rest s
  have hunits := finishedFrom_units before rest s
  have htracker : (passOver (finishedFrom before rest s)).tracker = .initial :=
    congrArg (fun t : Tracker => { t with passInProgress := false, waiting := none }) (finishedFrom_tracker before rest s)
  have hok : PhaseOk (finishedFrom before rest s).controller :=
    .plain (by simp [hphase]) hmuted hhold hramp (fun _ => hqueue) (by simp [hstalled])
  refine controlSound_over htracker hok ((finishedFrom_halted before rest s).trans hrun) fun c => ?_
  rw [hunits]
  exact hstill c

theorem Live.finishTaken_flushed (h : Live s) {f : State} (hf : flush (Machine.stopAll s.controller.phase false s) = f)
    (tag : Byte) : StageSound (finishTaken tag s) := by
  have hlive : Live f := hf ▸ closeKept.flush (h.stopAll _ _)
  have hstill : AllStill f := hf ▸ AllStill.closeKept.flush fun c => by rw [stopAll_get]; exact ⟨rfl, rfl⟩
  have hrun : (finishedFrom s.controller.phase f.controller.queue f).faults.halted = false :=
    (finishedFrom_halted ..).trans hlive.2
  rw [Machine.finishTaken_flushed hf rfl]
  refine ⟨fun hh => absurd (hh.symm.trans ((answer_halted ..).trans hrun)) nofun, fun _ => ?_⟩
  rw [passOver_answer]
  exact (finishedFrom_sound _ _ hlive.2 hstill).reported (.answer _ _)

theorem Live.finishTaken (h : Live s) (tag : Byte) : StageSound (Machine.finishTaken tag s) :=
  h.finishTaken_flushed rfl tag

/-! ## The head of the queue (R95, R96, R102) -/

theorem Live.awaitExamined (h : Live s) (hq : s.controller.queue = q :: rest) (m : MarkName) (tag : Byte) :
    Live (awaitExamined m tag s) := by
  have hok := h.phaseOk
  cases hset : markSet m s.controller with
  | true =>
    rw [awaitExamined_set hq hset]
    have hpopped : Live (s.onController fun c => { c with queue := rest, stalled := false }) := popHead_eq hq ▸ h.popHead hq
    refine Live.answer (hpopped.noted ?_) _
    cases m <;> exact ⟨rfl, rfl, rfl, rfl, rfl, rfl, rfl, rfl, rfl, rfl⟩
  | false =>
    rw [awaitExamined_clear hset]
    exact h.become rfl rfl (hok.queued rfl rfl rfl rfl hok.idle fun _ => by simp [hq]) (h.listening rfl rfl rfl (.inr rfl))

theorem orderLegal_load {p : Phase} {o : Order} (h : orderLegal p o = true)
    (ho : o = .ramp ∨ o = .hold ∨ o = .unload ∨ o = .mute) : listeningPhase p = true := by
  cases p with
  | armed | ramp | hold | unload => rfl
  | idle | muted | burst => rcases ho with rfl | rfl | rfl | rfl <;> cases h

theorem orderLegal_unmute {p : Phase} (h : orderLegal p .unmute = true) : p = .muted := by
  cases p with
  | muted => rfl
  | idle | armed | ramp | hold | unload | burst => cases h

theorem Live.takeOrder (h : Live s) (hq : s.controller.queue = q :: rest)
    (hl : orderLegal s.controller.phase q.order = true) : StageSound (takeOrder q s) := by
  have hpop : Live (Machine.popHead s) := h.popHead hq
  have load (ho : q.order = .ramp ∨ q.order = .hold ∨ q.order = .unload ∨ q.order = .mute) :
      listeningPhase (Machine.popHead s).controller.phase = true := orderLegal_load hl ho
  have unmuted (ho : q.order = .ramp ∨ q.order = .hold ∨ q.order = .unload ∨ q.order = .mute) :
      (Machine.popHead s).controller.phase ≠ .muted := fun e => by
    have := load ho
    rw [e] at this
    cases this
  unfold Machine.takeOrder
  split
  · exact h.1.stageSound
  · next ho => exact (hpop.rampTaken (unmuted (by simp [ho])) _).stageSound
  · next ho => exact (hpop.holdTaken (unmuted (by simp [ho])) _).stageSound
  · next ho => exact (hpop.unloadTaken (unmuted (by simp [ho])) _).stageSound
  · next ho => exact (hpop.muteTaken (load (by simp [ho])) _).stageSound
  · next ho => exact (hpop.unmuteTaken (orderLegal_unmute (ho ▸ hl)) _).stageSound
  · next name _ => exact (hpop.swapOrder_sound name _).stageSound
  · next m _ => exact (h.awaitExamined hq m _).stageSound
  · exact hpop.finishTaken _

theorem Live.controllerStage (h : Live s) : StageSound (controllerStage s) := by
  have hquiet : Live (holdQuiet s) := h.reported (.holdQuiet s)
  unfold Machine.controllerStage examineHead
  split
  · exact hquiet.1.stageSound
  · next q rest hq =>
    split
    · next hl => exact hquiet.takeOrder hq hl
    · exact ((hquiet.popHead hq).answer _).stageSound

theorem ControlSound.runPass (h : ControlSound s) : ControlSound (runPass s) := by
  unfold Machine.runPass
  split
  · next hpass =>
    have hrun : s.faults.halted = false := by
      obtain ⟨-, ⟨-, -, -, -, -, -, hhalted⟩, -⟩ := h
      by_contra hh
      exact absurd (hpass.symm.trans (hhalted (by simpa using hh)).2) nofun
    have hstage : Live (assemblerStage s) := Live.closeKept.assemblerStage ⟨h, hrun⟩
    exact StageSound.endPass (Live.controllerStage hstage)
  · exact h

end

end Sys2Proof.Machine

/-! # Tracker, phase and contexts: every command -/

namespace Sys2Proof.Machine

section
variable {s t u : State} {x : MgmtFrame}

/-! ## Management frames -/

/-- Sound, with no frame waiting for the responder when halted. -/
def Served (s : State) : Prop := ControlSound s ∧ (s.faults.halted = true → s.responder.waiting = [])

theorem Live.served (h : Live s) : Served s := ⟨h.1, fun hh => absurd (h.2.symm.trans hh) nofun⟩

theorem Live.armOrder (h : Live s) (tag : Byte) : Live (armOrder tag s) := by
  have hrun : (testBegun s).faults.halted = false := h.2
  have hreported : Reported (testBegun s) (offerRecord (armedRecord s) (testBegun s)) := .offerRecord _ _
  have hbegun : PhaseOk (testBegun s).controller := .plain ⟨nofun, nofun, nofun⟩ rfl rfl rfl nofun nofun
  rw [armOrder_eq]
  refine Live.answer (s := (offerRecord (armedRecord s) (testBegun s)).onUnits fun us =>
    mapVec (fun c => armedUnit s.active c us[c]) (Vector.finRange 32)) ?_ _
  generalize offerRecord (armedRecord s) (testBegun s) = r at hreported ⊢
  have hrun' : r.faults.halted = false := hreported.halted.trans hrun
  have hphase : r.controller.phase = .armed := hreported.phase
  refine ⟨⟨.of_initial hreported.tracker, PhaseOk.phaseSound ?_ hrun', ?_⟩, hrun'⟩
  · exact hbegun.queued hreported.phase hreported.mutedFrom hreported.hold hreported.ramp (by simp [hphase])
      (by simp [hreported.stalled, testBegun, clearTest])
  · refine (listeningSound_iff (by exact hrun')).mpr fun c => ?_
    have hactive : r.active = s.active := hreported.active
    have hunit : (r.onUnits fun us => mapVec (fun c => armedUnit s.active c us[c]) (Vector.finRange 32)).units[c] =
        armedUnit s.active c r.units[c] := by
      rw [State.onUnits_units, Fin.getElem_fin, mapVec_getElem, Vector.getElem_finRange]
    rw [hunit]
    simp only [State.onUnits_controller, State.onUnits_active, hphase, hactive]
    refine ⟨fun hctx => ⟨rfl, ?_⟩, fun _ => rfl⟩
    by_contra hmode
    exact hctx (if_neg hmode)

theorem Live.orderInTest (h : Live s) (hphase : s.controller.phase ≠ .idle) (o : Order) (tag : Byte) :
    Live (orderInTest o tag s) := by
  unfold Machine.orderInTest
  split
  · exact h.answer _
  · split
    · exact h.answer _
    · exact h.become rfl rfl (h.phaseOk.queued rfl rfl rfl rfl (fun hidle => absurd hidle hphase) fun _ => by simp)
        (h.listening rfl rfl rfl (.inr rfl))

theorem Live.swapOrder_served (h : Live s) (name : SwapName) (tag : Byte) : Served (Machine.swapOrder name tag s) := by
  rcases h.swapOrder name tag with hlive | ⟨u, hu, e⟩
  · exact hlive.served
  · rw [e]
    refine ⟨hu.controlSound.reported (.answer _ _), fun _ => ?_⟩
    obtain ⟨w, -, rfl⟩ := hu
    rw [answer_responder, enterHalted_responder]

theorem Live.orderArrives (h : Live s) (o : Order) (tag : Byte) : Served (orderArrives o tag s) := by
  unfold Machine.orderArrives
  split
  · cases o with
    | arm => exact (h.armOrder tag).served
    | swap name => exact h.swapOrder_served name tag
    | _ => exact (h.answer _).served
  · next hphase => exact (h.orderInTest hphase o tag).served

theorem Live.dropped (h : Live s) : Live (cancelOrders s) :=
  Live.reported (s := s.onController fun c => { c with queue := [], stalled := false })
    (h.become rfl rfl (h.phaseOk.queued rfl rfl rfl rfl (fun _ => rfl) nofun) (h.listening rfl rfl rfl (.inr rfl)))
    (cancelOrders_reported s)

theorem Plain.noted (h : Plain s t) : Noted s t := by
  obtain ⟨m0, m1, e⟩ := h.controller
  exact ⟨h.tracker, h.units, h.active, h.halted, by rw [e], by rw [e], by rw [e], by rw [e], by rw [e], by rw [e]⟩

/-- The blocks of a reset part are sound. -/
theorem Live.of_initial (htracker : s.tracker = .initial) (hcontroller : s.controller = .initial)
    (hunits : s.units = Vector.replicate 32 .initial) (hrun : s.faults.halted = false) : Live s := by
  have hok : PhaseOk s.controller := by
    rw [hcontroller]
    exact .plain ⟨nofun, nofun, nofun⟩ rfl rfl rfl (fun _ => rfl) nofun
  refine ⟨⟨.of_initial htracker, hok.phaseSound hrun, AllStill.listeningSound fun c => ?_⟩, hrun⟩
  simp [hunits, ChannelUnit.initial]

theorem Live.linkReset (tag : Byte) (s : State) : Live (linkReset tag s) := by
  rw [linkReset_eq]
  exact .of_initial rfl rfl rfl rfl

theorem Live.powerOnReset (s : State) : Live (powerOnReset s) := by
  rw [powerOnReset_eq]
  exact .of_initial rfl rfl rfl rfl

theorem Live.carriedOut (h : Live s) (g : CarriedOut x s t) : Served t := by
  cases g with
  | plain hu _ => exact ((h.noted hu.noted).answer _).served
  | dropped => exact (h.dropped.answer _).served
  | ordered => exact h.orderArrives _ _
  | reset => exact (Live.linkReset _ _).served

theorem Served.serve (h : Served s) (n : Nat) : Served (serve n s) := by
  induction n generalizing s with
  | zero => exact h
  | succ n ih =>
    unfold Machine.serve
    split
    · exact h
    · next x xs hwaiting =>
      have hrun : s.faults.halted = false := by
        by_contra hh
        rw [h.2 (by simpa using hh)] at hwaiting
        cases hwaiting
      have hlive : Live (s.onResponder fun _ => { inHand := some x, waiting := xs }) := ⟨h.1, hrun⟩
      have hcarried := hlive.carriedOut (carryOut_carried x _)
      exact ih (s := (carryOut x _).onResponder fun r => { r with inHand := none }) hcarried

theorem Live.acceptMgmt (h : Live s) (x : MgmtFrame) : ControlSound (acceptMgmt x s) := by
  unfold Machine.acceptMgmt
  split
  · exact (h.reported (.raise _ _)).1
  · exact (Served.serve (Live.served (s := (s.onOutlet fun o => { o with reservations := o.reservations + 1 }).onResponder
      fun r => { r with waiting := r.waiting ++ [x] }) h) _).1

/-! ## Every command -/

theorem ControlSound.happens {c : Instr} (g : Happens s c t) (h : ControlSound s) : ControlSound t := by
  cases g with
  | nothing => exact h
  | fault _ code sel => exact h.reportFault code sel
  | sample f x => exact (h.reported (.offerSample f x.card s)).trackSample x
  | settle f b p => exact (h.reported (.offerPass p s)).trackSettle b
  | process f x =>
    obtain ⟨f, hf⟩ := takeProcess_reported x s
    exact ControlSound.reported (s := s.onMonitor f) h hf
  | pass => exact h.runPass
  | unit _ ev d => exact h.run (.unitStep ev d s)
  | ready level => exact ControlSound.reported (s := s.withReady level) h (.arbitrate _)
  | done => exact h.reported (transmissionDone_reported s)
  | mgmt _ x hrun => exact Live.acceptMgmt ⟨h, hrun⟩ x
  | powerOn => exact (Live.powerOnReset s).1
  | link f tag => exact (Live.linkReset tag s).1

end

/-- Settles O57: each block leaves the relations, `ControlSound.happens`. -/
theorem controlRelationsKept : Obligations.ControlRelationsKept := fun _ _ =>
  step_keeps (P := ControlSound) (fun _ _ h => h) fun _ _ _ => ControlSound.happens

end Sys2Proof.Machine

/-! # The ranges of the units -/

namespace Sys2Proof.Machine

/-! ## One unit -/

/-- A unit's samples and its OPEN hit, against the expected tick of its card (R9, R17). -/
def UnitSound (expected : Option Tick) (u : ChannelUnit) : Prop :=
  unitAhead u expected ∧ ∀ h, u.ctx = .openHit h → hitSound h

section
variable {e e' : Option Tick} {u v : ChannelUnit} {x : LaneSample} {en : ChannelEntry}

theorem UnitSound.of_empty (hlane : u.lane = []) (hopen : ∀ h, u.ctx ≠ .openHit h) : UnitSound e u := by
  refine ⟨⟨?_, ?_, fun h hctx => absurd hctx (hopen h)⟩, fun h hctx => absurd hctx (hopen h)⟩
  · rw [hlane]; exact .nil
  · rw [hlane]; nofun

theorem UnitSound.dark (e : Option Tick) (u : ChannelUnit) : UnitSound e (darkUnit u) := .of_empty rfl nofun

/-- The unit with its context no longer that of an OPEN hit. -/
theorem UnitSound.closed (h : UnitSound e u) (hlane : v.lane = u.lane) (hopen : ∀ hit, v.ctx ≠ .openHit hit) :
    UnitSound e v := by
  obtain ⟨⟨horder, hin, -⟩, -⟩ := h
  exact ⟨⟨hlane ▸ horder, hlane ▸ hin, fun hit hctx => absurd hctx (hopen hit)⟩, fun hit hctx => absurd hctx (hopen hit)⟩

theorem UnitSound.raised (h : UnitSound e u) (hle : ∀ t, e = some t → ∃ t', e' = some t' ∧ t ≤ t') : UnitSound e' u := by
  have later {n : Tick} (hn : ∃ t, e = some t ∧ n < t) : ∃ t, e' = some t ∧ n < t := by
    obtain ⟨t, ht, hlt⟩ := hn
    obtain ⟨t', ht', hle⟩ := hle t ht
    exact ⟨t', ht', Nat.lt_of_lt_of_le hlt hle⟩
  obtain ⟨⟨horder, hin, hhit⟩, hsound⟩ := h
  exact ⟨⟨horder, fun x hx => ⟨(hin x hx).1, later (hin x hx).2⟩,
    fun hit hctx => ⟨(hhit hit hctx).1, later (hhit hit hctx).2⟩⟩, hsound⟩

theorem UnitSound.truncated (h : UnitSound e u) : UnitSound e (truncatedUnit u) := by
  unfold truncatedUnit
  split
  · exact h.closed rfl nofun
  all_goals exact h

theorem UnitSound.readied (h : UnitSound e u) : UnitSound e (readyUnit u) := by
  unfold readyUnit
  split
  · exact h.closed rfl nofun
  · exact h

/-- A tracked sample is the last that the hit's ticks reach. -/
theorem trackHit_reaches {h : Hit} (hx : h.lastSupra + h.quietRun < x.tick) :
    (trackHit h x).lastSupra + (trackHit h x).quietRun ≤ x.tick := by
  by_cases hm : h.snap.threshold ≤ x.value.natAbs
  · rw [trackHit_supra hm]
    exact Nat.le_refl _
  · rw [trackHit_below (Nat.not_le.mp hm)]
    exact hx

/-- A sample in range, taken ahead of the unit's others and behind its hit. -/
theorem Taken.unitSound (hen : channelEntryOk en) (hx : x.value.natAbs ≤ 32768) (hin : ∃ t, e = some t ∧ x.tick < t)
    (hahead : ∀ y ∈ u.lane, x.tick < y.tick) (hbehind : ∀ h, u.ctx = .openHit h → h.lastSupra + h.quietRun < x.tick)
    (hu : UnitSound e u) (h : Taken en x u v) : UnitSound e v := by
  obtain ⟨t, ht, hlt⟩ := hin
  cases h with
  | ignored => exact hu
  | readied => exact hu.closed rfl nofun
  | started n l _ hlistens hmet hlimit =>
    obtain ⟨⟨horder, hlane, -⟩, -⟩ := hu
    refine ⟨⟨horder, hlane, fun h hctx => ?_⟩, fun h hctx => ?_⟩
    all_goals cases hctx
    · exact ⟨hahead, t, ht, hlt⟩
    · exact startedHit_sound hen hlistens hmet hx hlimit
  | @tracked h0 hopen hquiet hlimit =>
    obtain ⟨⟨horder, hlane, -⟩, hsound⟩ := hu
    have hreach := trackHit_reaches (hbehind h0 hopen)
    refine ⟨⟨horder, hlane, fun h hctx => ?_⟩, fun h hctx => ?_⟩
    all_goals cases hctx
    · exact ⟨fun y hy => Nat.lt_of_le_of_lt hreach (hahead y hy), t, ht, Nat.lt_of_le_of_lt hreach hlt⟩
    · exact trackHit_sound (hsound h0 hopen) hx (hbehind h0 hopen) hquiet hlimit
  | ended => exact hu.closed rfl nofun

theorem Runs.unitSound (hen : channelEntryOk en) (hu : UnitSound e u) (h : Runs en u v) : UnitSound e v := by
  refine h.keeps (P := UnitSound e) (fun {u v x xs} hlane htaken hu => ?_) hu
  obtain ⟨⟨horder, hin, hhit⟩, hsound⟩ := hu
  rw [hlane] at horder hin
  obtain ⟨hahead, horder⟩ := List.pairwise_cons.mp horder
  obtain ⟨hvalue, hbelow⟩ := hin x (List.mem_cons_self ..)
  have htail : UnitSound e { u with lane := xs } :=
    ⟨⟨horder, fun y hy => hin y (List.mem_cons_of_mem _ hy), fun h hctx =>
      ⟨fun y hy => (hhit h hctx).1 y (by rw [hlane]; exact List.mem_cons_of_mem _ hy), (hhit h hctx).2⟩⟩, hsound⟩
  exact Taken.unitSound (u := { u with lane := xs }) hen hvalue hbelow hahead
    (fun h hctx => (hhit h hctx).1 x (by rw [hlane]; exact List.mem_cons_self ..)) htail htaken

/-- A sample handed at the expected tick. -/
theorem UnitSound.handed (hx : x.value.natAbs ≤ 32768) (h : UnitSound (some x.tick) u) :
    UnitSound (some (x.tick + 1)) { u with lane := u.lane ++ [x] } := by
  obtain ⟨⟨horder, hin, hhit⟩, hsound⟩ := h
  have below {y : LaneSample} (hy : y ∈ u.lane) : y.tick < x.tick := by
    obtain ⟨-, t, ht, hlt⟩ := hin y hy
    cases ht
    exact hlt
  refine ⟨⟨List.pairwise_append.mpr ⟨horder, List.pairwise_singleton .., fun y hy z hz => ?_⟩, fun y hy => ?_,
    fun h hctx => ?_⟩, hsound⟩
  · rw [List.mem_singleton.mp hz]
    exact below hy
  · rcases List.mem_append.mp hy with hy | hy
    · exact ⟨(hin y hy).1, _, rfl, Nat.lt_succ_of_lt (below hy)⟩
    · rw [List.mem_singleton.mp hy]
      exact ⟨hx, _, rfl, Nat.lt_succ_self _⟩
  · obtain ⟨hlane, t, ht, hlt⟩ := hhit h hctx
    cases ht
    refine ⟨fun y hy => ?_, _, rfl, Nat.lt_succ_of_lt hlt⟩
    rcases List.mem_append.mp hy with hy | hy
    · exact hlane y hy
    · rw [List.mem_singleton.mp hy]
      exact hlt

end

/-! ## All units, each against an expected tick -/

/-- Each channel's unit is sound against its tick in `E`. -/
def UnitsAt (E : Chan → Option Tick) (s : State) : Prop := ∀ c : Chan, UnitSound (E c) s.units[c]

/-- Every active channel entry is in range. -/
def EntriesOk (s : State) : Prop := ∀ c : Chan, channelEntryOk s.active.channels[c]

section
variable {E : Chan → Option Tick} {s t : State} {c : Chan} {x : LaneSample}

theorem UnitsAt.congr (h : UnitsAt E s) (e : t.units = s.units) : UnitsAt E t := fun c => by rw [e]; exact h c

theorem UnitsAt.onUnit {f : ChannelUnit → ChannelUnit} (h : UnitsAt E s) (hf : UnitSound (E c) (f s.units[c])) :
    UnitsAt E (s.onUnit c f) := by
  intro d
  rw [State.onUnit_get]
  split
  · next hd => exact hd ▸ hf
  · exact h d

theorem UnitsAt.run (h : UnitsAt E s) (hentries : EntriesOk s) (g : UnitsRun s t) : UnitsAt E t :=
  fun c => (g.runs c).unitSound (hentries c) (h c)

theorem EntriesOk.reach (h : EntriesOk s) (g : UnitReach s t) : EntriesOk t := by
  unfold EntriesOk
  rw [g.active]
  exact h

theorem AllStill.unitsAt (h : AllStill s) (E : Chan → Option Tick) : UnitsAt E s := fun c =>
  .of_empty (h c).2 (by rw [(h c).1]; nofun)

/-- The ticks with those of the channels `l` set to `e`. -/
def ticksSet (l : List Chan) (e : Option Tick) (E : Chan → Option Tick) : Chan → Option Tick :=
  fun c => if c ∈ l then e else E c

theorem handSample_unitsAt (h : UnitsAt E s) (hentries : EntriesOk s) (hx : x.value.natAbs ≤ 32768)
    (hE : E c = some x.tick) : UnitsAt (ticksSet [c] (some (x.tick + 1)) E) (handSample c x s) := by
  have hhanded : UnitsAt (ticksSet [c] (some (x.tick + 1)) E) (handed c x s) := by
    intro d
    rw [handed, State.onUnit_get, ticksSet]
    by_cases hd : c = d
    · subst hd
      rw [if_pos rfl, if_pos (List.mem_singleton.mpr rfl)]
      exact UnitSound.handed hx (hE ▸ h c)
    · rw [if_neg hd, if_neg fun hmem => hd (List.mem_singleton.mp hmem).symm]
      exact h d
  rw [handSample_eq]
  exact hhanded.run hentries (.runUnit c _)

theorem UnitsAt.ticks {E' : Chan → Option Tick} (h : UnitsAt E s) (he : ∀ c, E' c = E c) : UnitsAt E' s :=
  fun c => by rw [he]; exact h c

/-- The sample set of a tick, handed to the lanes of a list. -/
theorem foldl_handSample_unitsAt {k : Card} {t : Tick} {values : List Int} (hv : ∀ y ∈ values, y.natAbs ≤ 32768)
    {l : List (Fin 8)} (hl : l.Nodup) (h : UnitsAt E s) (hentries : EntriesOk s) (hE : ∀ m ∈ l, E (laneChan k m) = some t) :
    UnitsAt (ticksSet (l.map (laneChan k)) (some (t + 1)) E)
      (l.foldl (fun s m => handSample (laneChan k m) ⟨t, values.getD m.val 0⟩ s) s) := by
  induction l generalizing s E with
  | nil => exact h.ticks fun c => if_neg List.not_mem_nil
  | cons m l ih =>
    obtain ⟨hm, hl⟩ := List.nodup_cons.mp hl
    have hvalue : (values.getD m.val 0).natAbs ≤ 32768 := by
      rw [List.getD_eq_getElem?_getD]
      cases hget : values[m.val]? with
      | none => exact Nat.zero_le _
      | some y => exact hv y (List.mem_of_getElem? hget)
    have hfirst := handSample_unitsAt (x := ⟨t, values.getD m.val 0⟩) h hentries hvalue (hE m (List.mem_cons_self ..))
    have hrest := ih hl hfirst (hentries.reach (UnitReach.moves.handSample ..)) fun j hj => ?_
    · refine hrest.ticks fun c => ?_
      simp only [ticksSet, List.map_cons, List.mem_cons, List.not_mem_nil, or_false]
      by_cases hc : c ∈ l.map (laneChan k)
      · rw [if_pos (.inr hc), if_pos hc]
      · simp only [hc, or_false, if_false]
    · rw [ticksSet, if_neg]
      · exact hE j (List.mem_cons_of_mem _ hj)
      · intro hmem
        exact hm ((laneChan_inj (List.mem_singleton.mp hmem)).2 ▸ hj)

/-- Sample sets handed to a card from its expected tick on. -/
theorem handSets_unitsAt {k : Card} {t : Tick} {sets : List (List Int)} (hv : ∀ v ∈ sets, ∀ y ∈ v, y.natAbs ≤ 32768)
    (h : UnitsAt E s) (hentries : EntriesOk s) (hE : ∀ m, E (laneChan k m) = some t) :
    UnitsAt (ticksSet (cardChans k) (some (t + sets.length)) E) (handSets k t sets s) := by
  induction sets generalizing t s E with
  | nil =>
    refine h.ticks fun c => ?_
    rw [ticksSet]
    split
    · next hc =>
      obtain ⟨m, -, rfl⟩ := List.mem_map.mp hc
      exact (hE m).symm
    · rfl
  | cons v vs ih =>
    have hfirst := foldl_handSample_unitsAt (hv v (List.mem_cons_self ..)) (List.nodup_finRange 8) h hentries fun m _ => hE m
    have hrest := ih (t := t + 1) (fun w hw => hv w (List.mem_cons_of_mem _ hw)) hfirst
      (hentries.reach (UnitReach.moves.handSet k t v s)) fun m =>
        if_pos (List.mem_map.mpr ⟨m, List.mem_finRange m, rfl⟩)
    refine UnitsAt.ticks hrest fun c => ?_
    by_cases hc : c ∈ cardChans k
    · rw [ticksSet, ticksSet, if_pos hc, if_pos hc, List.length_cons, Nat.add_assoc, Nat.add_comm 1]
    · rw [ticksSet, ticksSet, if_neg hc, if_neg hc]
      exact (if_neg hc).symm

/-! ## Against the expected ticks of the tracker -/

/-- The card of a channel. -/
def cardOf (c : Chan) : Card := ⟨c.val / 8, by omega⟩

theorem cardOf_laneChan (k : Card) (l : Fin 8) : cardOf (laneChan k l) = k :=
  Fin.ext (by simp only [cardOf, laneChan]; omega)

theorem exists_laneChan (c : Chan) : ∃ k l, laneChan k l = c :=
  ⟨cardOf c, ⟨c.val % 8, by omega⟩, Fin.ext (by simp only [cardOf, laneChan]; omega)⟩

/-- The expected tick of each channel's card. -/
def expectedAt (t : Tracker) : Chan → Option Tick := fun c => t.expected[cardOf c]

theorem expectedAt_laneChan (t : Tracker) (k : Card) (l : Fin 8) : expectedAt t (laneChan k l) = t.expected[k] :=
  congrArg (fun j : Card => t.expected[j]) (cardOf_laneChan k l)

theorem unitsAt_expectedAt_iff : UnitsAt (expectedAt s.tracker) s ↔ LanesSound s ∧ HitsSound s := by
  constructor
  · intro h
    refine ⟨fun k l => ?_, fun c hit hctx => (h c).2 hit hctx⟩
    rw [← expectedAt_laneChan]
    exact (h (laneChan k l)).1
  · rintro ⟨hlanes, hhits⟩ c
    refine ⟨?_, hhits c⟩
    obtain ⟨k, l, rfl⟩ := exists_laneChan c
    rw [expectedAt_laneChan]
    exact hlanes k l

end

end Sys2Proof.Machine

/-! # The ranges of the units across SAMPLE and SETTLE frames -/

namespace Sys2Proof.Machine

/-- All units sound against the expected ticks of the tracker (R9, R17). -/
def UnitsSound (s : State) : Prop := UnitsAt (expectedAt s.tracker) s

section
variable {s t u : State} {k : Card} {b : Tick}

theorem UnitsSound.same (h : UnitsSound s) (htracker : t.tracker.expected = s.tracker.expected) (hunits : t.units = s.units) :
    UnitsSound t :=
  (UnitsAt.congr h hunits).ticks fun c => by rw [expectedAt, htracker]; rfl

theorem UnitsSound.reported (h : UnitsSound s) (g : Reported s t) : UnitsSound t := h.same (by rw [g.tracker]) g.units

theorem UnitsSound.run (h : UnitsSound s) (hentries : EntriesOk s) (g : UnitsRun s t) : UnitsSound t :=
  (UnitsAt.run h hentries g).ticks fun c => by rw [g.reach.tracker]

theorem AllStill.unitsSound (h : AllStill s) : UnitsSound s := h.unitsAt _

theorem enterHalted_still (s : State) : AllStill (enterHalted s) := fun c => by
  rw [enterHalted_unit]
  exact ⟨rfl, rfl⟩

theorem UnitsSound.reportFault (h : UnitsSound s) (code : FaultCode) (sel : Option Nat) :
    UnitsSound (reportFault code sel s) := by
  rcases reportFault_cases code sel s with hr | ⟨f, -, e⟩
  · exact h.reported hr
  · rw [e]
    exact (enterHalted_still _).unitsSound

theorem UnitsAt.truncateCard {E : Chan → Option Tick} (h : UnitsAt E s) (k : Card) : UnitsAt E (truncateCard k s) := by
  intro c
  obtain ⟨j, l, rfl⟩ := exists_laneChan c
  rw [truncateCard_unit]
  split
  · exact (h _).truncated
  · exact h _

/-! ## The expected tick of a card raised -/

theorem expectedAt_set (tr : Tracker) (k : Card) (e : Option Tick) (lag : Vector Bool 4) (c : Chan) :
    expectedAt { tr with expected := tr.expected.set k e, lag := lag } c = ticksSet (cardChans k) e (expectedAt tr) c := by
  obtain ⟨j, l, rfl⟩ := exists_laneChan c
  rw [expectedAt_laneChan, ticksSet, expectedAt_laneChan, Fin.getElem_fin, Vector.getElem_set]
  simp only [laneChan_mem_cardChans_iff, Fin.ext_iff, eq_comm (a := j.val)]
  rfl

/-- Units sound against one tick are sound against a later one. -/
theorem UnitsAt.raised {E : Chan → Option Tick} (h : UnitsAt E s) (hle : ∀ l e, E (laneChan k l) = some e → e ≤ b) :
    UnitsAt (ticksSet (cardChans k) (some b) E) s := by
  intro c
  rw [ticksSet]
  split
  · next hc =>
    obtain ⟨l, -, rfl⟩ := List.mem_map.mp hc
    exact (h _).raised fun e he => ⟨b, rfl, hle l e he⟩
  · exact h c

/-! ## SAMPLE frames (R7 to R9) -/

theorem sampleVerdict_behind {last expected : Option Tick} {start n : Nat} {e : Tick}
    (h : sampleVerdict last expected start n ≠ .overlap) (he : expected = some e) : e ≤ start := by
  by_contra hlow
  exact h (sampleVerdict_overlap (.inr (.inl ⟨e, he, Nat.lt_of_not_le hlow⟩)))

/-- The samples of a frame have their values in 16 bits, signed (R9, R172). -/
theorem sampleOf_values {p : List Byte} {x : SampleFrame} (h : sampleOf p = some x) :
    ∀ v ∈ x.sets, ∀ y ∈ v, y.natAbs ≤ 32768 := by
  obtain ⟨-, -, hsets⟩ := sampleOf_eq_some h
  rw [hsets]
  intro v hv y hy
  obtain ⟨j, -, rfl⟩ := List.mem_map.mp hv
  obtain ⟨l, -, rfl⟩ := List.mem_map.mp hy
  have hfield : fieldAt p (8 + 16 * j + 2 * l) 2 < 65536 := fieldAt_lt ..
  unfold sampleAt signed16
  split <;> omega

theorem advanceCard_expectedAt (k : Card) (e : Tick) (s : State) (c : Chan) :
    expectedAt (advanceCard k e s).tracker c = ticksSet (cardChans k) (some e) (expectedAt s.tracker) c := expectedAt_set ..

theorem UnitsAt.advanceCard {E : Chan → Option Tick} (h : UnitsAt E s) (k : Card) (e : Tick) :
    UnitsAt E (advanceCard k e s) := h.congr rfl

theorem EntriesOk.advanceCard (h : EntriesOk s) (k : Card) (e : Tick) : EntriesOk (advanceCard k e s) := h

/-- The samples of a frame, handed with the expected tick already that behind the last of them. -/
theorem handSets_unitsSound {x : SampleFrame} (hv : ∀ v ∈ x.sets, ∀ y ∈ v, y.natAbs ≤ 32768) {E : Chan → Option Tick}
    (h : UnitsAt E s) (hentries : EntriesOk s) (hle : ∀ l e, E (laneChan x.card l) = some e → e ≤ x.start)
    (htracker : ∀ c, expectedAt s.tracker c = ticksSet (cardChans x.card) (some (x.start + x.sets.length)) E c) :
    UnitsSound (handSets x.card x.start x.sets s) := by
  have hhanded := handSets_unitsAt hv (h.raised hle) hentries fun l =>
    if_pos (laneChan_mem_cardChans_iff.mpr rfl)
  refine hhanded.ticks fun c => ?_
  rw [(UnitReach.moves.handSets x.card x.start x.sets s).tracker, htracker, ticksSet, ticksSet]
  split
  · rfl
  · next hc => exact (if_neg hc).symm

/-- A gap is reported, and then the samples are handed unless the report has halted the part (R8). -/
theorem gap_unitsSound {x : SampleFrame} (hv : ∀ v ∈ x.sets, ∀ y ∈ v, y.natAbs ≤ 32768) {E : Chan → Option Tick}
    (h : UnitsAt E s) (hentries : EntriesOk s) (hle : ∀ l e, E (laneChan x.card l) = some e → e ≤ x.start)
    (htracker : ∀ c, expectedAt s.tracker c = ticksSet (cardChans x.card) (some (x.start + x.sets.length)) E c)
    (sel : Option Nat) :
    UnitsSound (if (reportFault .tickGap sel s).faults.halted then reportFault .tickGap sel s
      else handSets x.card x.start x.sets (reportFault .tickGap sel s)) := by
  rcases reportFault_cases .tickGap sel s with hr | ⟨f, -, e⟩
  · have hreported := h.congr hr.units
    rw [← hr.tracker] at htracker
    split
    · exact (hreported.raised fun l e he => (hle l e he).trans (Nat.le_add_right _ _)).ticks htracker
    · exact handSets_unitsSound hv hreported (hentries.reach (.of_reported hr)) hle htracker
  · rw [e, if_pos (by rw [enterHalted_faults])]
    exact (enterHalted_still _).unitsSound

theorem UnitsSound.trackSample {x : SampleFrame} (h : UnitsSound s) (hentries : EntriesOk s)
    (hv : ∀ v ∈ x.sets, ∀ y ∈ v, y.natAbs ≤ 32768) : UnitsSound (trackSample x s) := by
  have drained := UnitsRun.drainCard x.card s
  have hdrained : UnitsAt (expectedAt (drainCard x.card s).tracker) (drainCard x.card s) := h.run hentries drained
  have hdrainedEntries : EntriesOk (drainCard x.card s) := hentries.reach drained.reach
  have hbehind (hverdict : sampleVerdict s.tracker.last s.tracker.expected[x.card] x.start x.sets.length ≠ .overlap)
      (l e) (he : expectedAt (drainCard x.card s).tracker (laneChan x.card l) = some e) : e ≤ x.start := by
    rw [expectedAt_laneChan, drained.reach.tracker] at he
    exact sampleVerdict_behind hverdict he
  unfold Machine.trackSample
  split
  · exact h
  · split
    · exact h.reportFault _ _
    · next hverdict =>
      exact handSets_unitsSound hv (hdrained.advanceCard x.card _) (hdrainedEntries.advanceCard _ _)
        (hbehind (by rw [hverdict]; nofun)) (advanceCard_expectedAt _ _ _)
    · next hverdict =>
      have truncated := truncateCard_reach x.card (drainCard x.card s)
      rw [sampleGap_eq]
      refine gap_unitsSound hv ((hdrained.truncateCard x.card).advanceCard x.card _)
        ((hdrainedEntries.reach truncated).advanceCard _ _) (hbehind (by rw [hverdict]; nofun)) (fun c => ?_) _
      rw [advanceCard_expectedAt, truncated.tracker]

/-! ## SETTLE frames (R10 to R14) -/

theorem UnitsSound.lagCheck (h : UnitsSound s) (b : Tick) : UnitsSound (lagCheck b s) := by
  refine foldl_keeps (P := UnitsSound) (fun k s hs => ?_) allCards h
  rw [lagCard_eq]
  split
  · exact hs
  · split
    · next hlag =>
      obtain ⟨e, he, hlt⟩ := isLagging_iff.mp hlag
      have htruncated : UnitsAt (expectedAt s.tracker) (laggedCard b k s) :=
        UnitsAt.congr (UnitsAt.truncateCard hs k) (laggedCard_units b k s)
      have hlagged : UnitsSound (laggedCard b k s) := by
        refine UnitsAt.ticks (htruncated.raised (k := k) (b := b) fun l e' he' => ?_) fun c => ?_
        · rw [expectedAt_laneChan, he] at he'
          cases he'
          exact Nat.le_of_lt hlt
        · rw [← (truncateCard_reach k s).tracker]
          exact expectedAt_set ..
      exact hlagged.reportFault _ _
    · exact hs

theorem UnitsSound.reached (h : UnitsSound s) (b : Tick) : UnitsSound (s.onTracker fun t => { t with last := some b }) := h

theorem UnitsSound.beginPass (h : UnitsSound s) (b : Tick) : UnitsSound (beginPass b s) := h

theorem UnitsSound.settleAccepted (h : UnitsSound s) (hentries : EntriesOk s) (b : Tick) :
    UnitsSound (settleAccepted b s) := by
  have hdrained : UnitsSound (drainAll s) := h.run hentries (.drainAll s)
  have hchecked := ((hdrained.reached b).reported (.settleTaken _)).lagCheck b
  rw [settleAccepted_eq]
  split
  · exact hchecked
  · exact hchecked.beginPass b

theorem UnitsSound.trackSettle (h : UnitsSound s) (hentries : EntriesOk s) (b : Tick) : UnitsSound (trackSettle b s) := by
  unfold Machine.trackSettle
  split
  · exact h.reported (.settleTaken s)
  · split
    · split
      · exact h.same rfl rfl
      · exact h.reportFault _ _
    · split
      · exact h.reportFault _ _
      · exact h.settleAccepted hentries b

theorem UnitsSound.endPass (h : UnitsSound s) (hentries : EntriesOk s) : UnitsSound (endPass s) := by
  have hover : UnitsSound (passOver s) := h.same rfl rfl
  cases hrun : s.faults.halted with
  | true =>
    rw [endPass_halted hrun]
    exact h
  | false =>
    rw [endPass_running hrun]
    split
    · exact hover
    · exact hover.trackSettle hentries _

/-! ## The stages of a pass -/

theorem UnitsSound.moves : StageMoves fun s t => UnitsSound s → UnitsSound t where
  refl _ := id
  trans h g := g ∘ h
  offer r s h := h.reported (.offerRecord r s)
  raise c s h := h.reported (.raise c s)
  counters f s h := h.reported (.onCounters f s)
  stop ph b c s h := by
    have hdark : UnitsAt (expectedAt s.tracker) (s.onUnit c darkUnit) := UnitsAt.onUnit h (.dark ..)
    exact (hdark.congr (stopUnit_units ph b c s)).ticks fun d => by rw [(UnitReach.moves.stopUnit ph b c s).tracker]
  wake c s _ h := UnitsAt.onUnit h (h c).readied
  controller _ _ _ _ h := h.same rfl rfl
  told _ _ _ _ _ h := h.same rfl rfl
  landed _ h := h.same rfl rfl
  taken _ h := h.same rfl rfl
  join _ _ _ _ h := h.same rfl rfl
  opened _ _ _ _ h := h.same rfl rfl
  free _ _ h := h.same rfl rfl

end

end Sys2Proof.Machine

/-! # The ranges across every command -/

namespace Sys2Proof.Machine

/-! ## The copies of the tables (R126 to R133) -/

/-- Both copies in range, and the active tables as validation lets them be. -/
def TablesOk (s : State) : Prop := CopiesInRange s ∧ TablesSound s

/-- The entries that a WRITE-TABLE frame holds are in range. -/
def EntriesInRange : TableEntries → Prop
  | .channel es => ∀ e ∈ es, channelEntryOk e
  | .pair es => ∀ e ∈ es, pairEntryOk e
  | .decibel ls => ∀ l ∈ ls, l ≤ 32768
  | .test t => testTableOk t

section
variable {s t u : State} {first count : Nat} {es : TableEntries} {name : TableName}

theorem forall_mem_of_reads {α : Type} {l : List α} {P : α → Prop} {g : Nat → Option α} (hlen : l.length = count)
    (hread : ∀ j < count, l[j]? = g j) (hg : ∀ j a, g j = some a → P a) : ∀ a ∈ l, P a := by
  intro a ha
  obtain ⟨j, hj, rfl⟩ := List.mem_iff_getElem.mp ha
  exact hg j _ ((hread j (hlen ▸ hj)).symm.trans (List.getElem?_eq_getElem hj))

theorem entriesOf_inRange {bs : List Byte} (hextent : extentOk name first count = true)
    (h : entriesOf name count bs = some es) : EntriesInRange es := by
  cases name with
  | channel =>
    obtain ⟨l, rfl, hlen, hread⟩ := entriesOf_channel_iff.mp h
    exact forall_mem_of_reads hlen hread fun _ _ he => (channelEntryOf_eq_some_iff.mp he).2
  | pair =>
    obtain ⟨l, rfl, hlen, hread⟩ := entriesOf_pair_iff.mp h
    exact forall_mem_of_reads hlen hread fun _ _ he => (pairEntryOf_eq_some_iff.mp he).2
  | decibel =>
    obtain ⟨l, rfl, hlen, hread⟩ := entriesOf_decibel_iff.mp h
    exact forall_mem_of_reads hlen hread fun _ _ he => (levelOf_eq_some_iff.mp he).2
  | test =>
    obtain ⟨-, rfl⟩ := extentOk_test_iff.mp hextent
    obtain ⟨t, rfl, ht⟩ := entriesOf_test_iff.mp h
    exact (testTableOf_eq_some_iff.mp ht).2

theorem writeOf_inRange {body : List Byte} (h : writeOf body = some (first, es)) : EntriesInRange es := by
  simp only [writeOf, Option.bind_eq_bind, Option.bind_eq_some_iff] at h
  obtain ⟨name, -, h⟩ := h
  split at h
  · next hextent =>
    obtain ⟨es', hes, h⟩ := Option.bind_eq_some_iff.mp h
    cases h
    exact entriesOf_inRange hextent hes
  · cases h

theorem forall_writeVec {α : Type} {n : Nat} {P : α → Prop} {v : Vector α n} {l : List α} (hv : ∀ i : Fin n, P v[i])
    (hl : ∀ a ∈ l, P a) (first : Nat) (i : Fin n) : P (writeVec v first l)[i] := by
  rw [Fin.getElem_fin, writeVec_getElem]
  split
  · cases hget : l[i.val - first]? with
    | none => exact hv i
    | some a => exact hl a (List.mem_of_getElem? hget)
  · exact hv i

theorem writeEntries_inRange {t : Tables} (ht : TablesInRange t) (hes : EntriesInRange es) (first : Nat) :
    TablesInRange (writeEntries first es t) := by
  obtain ⟨hchannels, hpairs, hlevels, htest⟩ := ht
  cases es with
  | channel es => exact ⟨forall_writeVec hchannels hes first, hpairs, hlevels, htest⟩
  | pair es => exact ⟨hchannels, forall_writeVec hpairs hes first, hlevels, htest⟩
  | decibel ls => exact ⟨hchannels, hpairs, forall_writeVec hlevels hes first, htest⟩
  | test x => exact ⟨hchannels, hpairs, hlevels, hes⟩

theorem copyEntry_ok {e a : ChannelEntry} (h : channelEntryOk e) : channelEntryOk (copyEntry e a) := by
  unfold copyEntry
  split <;> exact h

/-- A table handled: copied in range when it passes validation, and left when not. -/
theorem TablesOk.handled (h : TablesOk s) (name : TableName) :
    TablesOk (s.onActive fun t => handled s.staged t name) := by
  obtain ⟨⟨hstaged, hactive⟩, hsound⟩ := h
  unfold Machine.handled
  cases hrefuses : swapRefuses name s.staged with
  | true => exact ⟨⟨hstaged, hactive⟩, hsound⟩
  | false =>
    obtain ⟨schannels, spairs, slevels, stest⟩ := id hstaged
    obtain ⟨achannels, apairs, alevels, atest⟩ := hactive
    obtain ⟨hrising, hmarks⟩ := hsound
    cases name with
    | channel =>
      refine ⟨⟨hstaged, fun c => ?_, apairs, alevels, atest⟩, hrising, hmarks⟩
      exact copiedChannels_get s.staged.channels s.active.channels c ▸ copyEntry_ok (schannels c)
    | pair => exact ⟨⟨hstaged, achannels, spairs, alevels, atest⟩, hrising, hmarks⟩
    | decibel =>
      have hvalid : nonDecreasing s.staged.levels.toList = true := by simpa [swapRefuses] using hrefuses
      exact ⟨⟨hstaged, achannels, apairs, slevels, atest⟩, hvalid, hmarks⟩
    | test =>
      have hvalid : s.staged.test.low < s.staged.test.high := by simpa [swapRefuses] using hrefuses
      exact ⟨⟨hstaged, achannels, apairs, alevels, stest⟩, hrising, hvalid⟩

theorem TablesOk.entriesOk (h : TablesOk s) : EntriesOk s := h.1.2.1

/-- Both copies as they were. -/
def TablesHeld (s t : State) : Prop := t.staged = s.staged ∧ t.active = s.active

theorem TablesHeld.of_reported (h : Reported s t) : TablesHeld s t := ⟨h.staged, h.active⟩

theorem TablesHeld.trans (h : TablesHeld s t) (g : TablesHeld t u) : TablesHeld s u :=
  ⟨g.1.trans h.1, g.2.trans h.2⟩

theorem TablesHeld.of_stageReach (h : StageReach s t) : TablesHeld s t := ⟨h.staged, h.active⟩

theorem TablesHeld.reportFault (code : FaultCode) (sel : Option Nat) (s : State) :
    TablesHeld s (reportFault code sel s) := by
  rcases reportFault_cases code sel s with hr | ⟨f, -, e⟩
  · exact of_reported hr
  · rw [e]
    exact ⟨enterHalted_staged _, enterHalted_active _⟩

theorem TablesHeld.moves : TickMoves TablesHeld where
  refl _ := ⟨rfl, rfl⟩
  trans := trans
  offer r s := of_reported (.offerRecord r s)
  raise c s := of_reported (.raise c s)
  counters _ _ := ⟨rfl, rfl⟩
  units _ _ := ⟨rfl, rfl⟩
  draws _ _ := ⟨rfl, rfl⟩
  list _ _ _ := ⟨rfl, rfl⟩
  notice _ _ _ _ _ := ⟨rfl, rfl⟩
  inFlight _ _ := ⟨rfl, rfl⟩
  tracker _ _ _ := ⟨rfl, rfl⟩
  pass p s := of_reported (.offerPass p s)
  settled s := of_reported (.settleTaken s)
  fault := reportFault

theorem TablesOk.held (h : TablesOk s) (g : TablesHeld s t) : TablesOk t := by
  unfold TablesOk CopiesInRange TablesSound
  rw [g.1, g.2]
  exact h

/-! ## Tables and units together -/

/-- All the ranges: of the tables and of the units. -/
def RangesSound (s : State) : Prop := TablesOk s ∧ UnitsSound s

namespace RangesSound

theorem reported (h : RangesSound s) (g : Reported s t) : RangesSound t :=
  ⟨h.1.held (.of_reported g), h.2.reported g⟩

theorem step (h : RangesSound s) (g : StageStep s t) : RangesSound t :=
  ⟨h.1.held (.of_stageReach (g _ StageReach.moves)), g _ UnitsSound.moves h.2⟩

theorem answer (h : RangesSound s) (a : Answer) : RangesSound (answer a s) := h.reported (.answer a s)

theorem reportFault (h : RangesSound s) (code : FaultCode) (sel : Option Nat) : RangesSound (reportFault code sel s) :=
  ⟨h.1.held (.reportFault code sel s), h.2.reportFault code sel⟩

theorem popHead (h : RangesSound s) : RangesSound (popHead s) := h

/-! ### SWAP (R133 to R138) -/

theorem swapTable (h : RangesSound s) (name : TableName) : RangesSound (swapTable name s) := by
  have hhandled : RangesSound (s.onActive fun t => handled s.staged t name) := ⟨h.1.handled name, h.2⟩
  rw [swapTable_eq]
  match swapReport name s with
  | some (code, sel) => exact hhandled.reportFault code sel
  | none => exact hhandled

theorem handleTables (h : RangesSound s) (ts : List TableName) : RangesSound (handleTables ts s) := by
  induction ts generalizing s with
  | nil => exact h
  | cons t ts ih =>
    unfold Machine.handleTables
    split
    · exact h
    · exact ih (h.swapTable t)

theorem swapOrder (h : RangesSound s) (name : SwapName) (tag : Byte) : RangesSound (swapOrder name tag s) := by
  have htables : RangesSound (tablesSwapped name s) := h.handleTables _
  rw [swapOrder_eq]
  refine answer ?_ _
  split
  · exact htables
  · exact htables.step fun _ m => m.swapDirectives _ _

/-! ### The orders of a pass -/

theorem finishTaken_flushed {f : State} (h : RangesSound s) (hf : flush (stopAll s.controller.phase false s) = f)
    (tag : Byte) : RangesSound (finishTaken tag s) := by
  have hstill : AllStill f := hf ▸ AllStill.closeKept.flush fun c => by rw [stopAll_get]; exact ⟨rfl, rfl⟩
  have hreach : StageReach s f := hf ▸ StageReach.moves.trans (StageReach.moves.stopAll _ _ s) (StageReach.moves.flush _)
  have reach := summed_reach s.controller.phase f
  have cancelled := cancelledBehind_reported f.controller.queue (summed s.controller.phase f)
  have hheld : TablesHeld f (finishedFrom s.controller.phase f.controller.queue f) :=
    ⟨(offerRecord_staged ..).trans (cancelled.staged.trans reach.staged),
      (offerRecord_active ..).trans (cancelled.active.trans reach.active)⟩
  rw [Machine.finishTaken_flushed hf rfl]
  refine answer ⟨h.1.held ((TablesHeld.of_stageReach hreach).trans hheld), AllStill.unitsSound fun c => ?_⟩ _
  rw [finishedFrom_units]
  exact hstill c

theorem takeOrder {q : QueuedOrder} (h : RangesSound s) : RangesSound (takeOrder q s) := by
  have hpop : RangesSound (Machine.popHead s) := h.popHead
  unfold Machine.takeOrder
  split
  · exact h
  · exact (hpop.step fun _ m => m.trans (m.changePhase _ _) (m.beginRamp _)).answer _
  · exact (hpop.step fun _ m => m.trans (m.changePhase _ _) (m.beginHold _)).answer _
  · exact (hpop.step fun _ m => m.trans (m.changePhase _ _) (m.controller _ _ rfl rfl)).answer _
  · exact (hpop.step fun _ m => m.trans (m.controller _ _ rfl rfl) (m.trans (m.changePhase _ _) (m.stopAll _ _ _))).answer _
  · exact (hpop.step fun _ m => m.trans (m.trans (m.changePhase _ _) (m.controller _ _ rfl rfl)) <|
      m.trans (m.ite (fun _ => m.beginHold _) fun _ => m.refl _) (m.readyListening _)).answer _
  · exact hpop.swapOrder _ _
  · next m _ =>
    unfold awaitExamined
    split
    · exact answer (s := Machine.popHead (s.onController (clearMark m))) h _
    · exact h
  · exact hpop.finishTaken_flushed rfl _

theorem controllerStage (h : RangesSound s) : RangesSound (controllerStage s) := by
  have hquiet : RangesSound (holdQuiet s) := h.reported (.holdQuiet s)
  unfold Machine.controllerStage examineHead
  split
  · exact hquiet
  · split
    · exact hquiet.takeOrder
    · exact hquiet.popHead.answer _

theorem endPass (h : RangesSound s) : RangesSound (endPass s) :=
  ⟨h.1.held (TablesHeld.moves.endPass (fun _ _ => ⟨rfl, rfl⟩) s), h.2.endPass h.1.entriesOk⟩

theorem runPass (h : RangesSound s) : RangesSound (runPass s) := by
  have hstage : RangesSound (assemblerStage s) := h.step fun _ m => m.assemblerStage s
  unfold Machine.runPass
  split
  · exact hstage.controllerStage.endPass
  · exact h

/-! ### Management frames -/

theorem armOrder (h : RangesSound s) (tag : Byte) : RangesSound (armOrder tag s) := by
  have hoffered : Reported (testBegun s) (offerRecord (armedRecord s) (testBegun s)) := .offerRecord _ _
  rw [armOrder_eq]
  generalize offerRecord (armedRecord s) (testBegun s) = r at hoffered ⊢
  refine answer (s := r.onUnits fun us => mapVec (fun c => armedUnit s.active c us[c]) (Vector.finRange 32))
    ⟨h.1.held ⟨hoffered.staged, hoffered.active⟩, fun c => ?_⟩ _
  have hunit : (r.onUnits fun us => mapVec (fun c => armedUnit s.active c us[c]) (Vector.finRange 32)).units[c] =
      armedUnit s.active c r.units[c] := by
    rw [State.onUnits_units, Fin.getElem_fin, mapVec_getElem, Vector.getElem_finRange]
  rw [hunit]
  refine .of_empty rfl fun hit hctx => ?_
  have hctx : (if modeListens s.active.channels[c].mode then Context.ready else .dark) = .openHit hit := hctx
  split at hctx <;> cases hctx

theorem orderArrives (h : RangesSound s) (o : Order) (tag : Byte) : RangesSound (orderArrives o tag s) := by
  unfold Machine.orderArrives
  split
  · cases o with
    | arm => exact h.armOrder tag
    | swap name => exact h.swapOrder name tag
    | _ => exact h.answer _
  · unfold orderInTest
    split
    · exact h.answer _
    · split
      · exact h.answer _
      · exact h

theorem of_initial (h : TablesOk s) (hunits : s.units = Vector.replicate 32 .initial) :
    RangesSound s := by
  refine ⟨h, AllStill.unitsSound fun c => ?_⟩
  simp [hunits, ChannelUnit.initial]

theorem linkReset (h : RangesSound s) (tag : Byte) : RangesSound (linkReset tag s) := by
  rw [linkReset_eq]
  exact of_initial h.1 rfl

theorem powerOnReset (s : State) : RangesSound (powerOnReset s) := by
  obtain ⟨-, -, -, -, htables, -, -, -, -, -, hcopies, -, -⟩ := resetHasTheRelations
  rw [powerOnReset_eq]
  exact of_initial ⟨hcopies, htables⟩ rfl

theorem carriedOut {x : MgmtFrame} (h : RangesSound s) (g : CarriedOut x s t) : RangesSound t := by
  cases g with
  | plain hu hstaged =>
    obtain ⟨⟨⟨hs, ha⟩, hsound⟩, hunits⟩ := h
    refine answer ⟨⟨⟨?_, by rw [hu.active]; exact ha⟩, ?_⟩, hunits.same (by rw [hu.tracker]) hu.units⟩ _
    · rcases hstaged with e | ⟨-, first, es, hw, e⟩
      · rw [e]; exact hs
      · rw [e]; exact writeEntries_inRange hs (writeOf_inRange hw) first
    · unfold TablesSound
      rw [hu.active]
      exact hsound
  | dropped => exact answer (RangesSound.reported (s := s.onController _) h (cancelOrders_reported s)) _
  | ordered => exact h.orderArrives _ _
  | reset => exact h.linkReset _

/-! ### Every command -/

theorem happens {c : Instr} (g : Happens s c t) (h : RangesSound s) : RangesSound t := by
  cases g with
  | nothing => exact h
  | fault _ code sel => exact h.reportFault code sel
  | sample f x _ hx =>
    have hoffered := h.reported (.offerSample f x.card s)
    exact ⟨hoffered.1.held (TablesHeld.moves.trackSample x _),
      hoffered.2.trackSample hoffered.1.entriesOk (sampleOf_values hx)⟩
  | settle f b p =>
    have hoffered := h.reported (.offerPass p s)
    exact ⟨hoffered.1.held (TablesHeld.moves.trackSettle (fun _ _ => ⟨rfl, rfl⟩) b _),
      hoffered.2.trackSettle hoffered.1.entriesOk b⟩
  | process f x =>
    obtain ⟨f, hf⟩ := takeProcess_reported x s
    exact RangesSound.reported (s := s.onMonitor f) h hf
  | pass => exact h.runPass
  | unit _ ev d => exact ⟨h.1.held (TablesHeld.moves.unitStep ev d s), h.2.run h.1.entriesOk (.unitStep ev d s)⟩
  | ready level => exact RangesSound.reported (s := s.withReady level) h (.arbitrate _)
  | done => exact h.reported (transmissionDone_reported s)
  | mgmt _ x =>
    exact acceptMgmt_keeps (P := RangesSound) (fun _ h => h.reported (.raise _ _)) (fun _ h => h) (fun _ _ h => h)
      (fun x s h => h.carriedOut (carryOut_carried x s)) x h
  | powerOn => exact powerOnReset s
  | link f tag => exact h.linkReset tag

end RangesSound

theorem rangesSound_iff (s : State) :
    RangesSound s ↔ CopiesInRange s ∧ TablesSound s ∧ LanesSound s ∧ HitsSound s := by
  rw [RangesSound, UnitsSound, unitsAt_expectedAt_iff, TablesOk, and_assoc]

end

/-- Settles O59: each block leaves the ranges, `RangesSound.happens`. -/
theorem rangesKept : Obligations.RangesKept := by
  intro s t hstep
  rw [← rangesSound_iff, ← rangesSound_iff]
  exact step_keeps (P := RangesSound) (fun _ _ h => h) (fun _ _ _ => RangesSound.happens) hstep

end Sys2Proof.Machine
